-- ==== Sys2Proof/Word.lean ====
section
/-! DEFINITION. The two machine words of the SIDH CORE's bus (20_memory.md R200, R201; 30_encoding.md R300). -/

namespace Sys2Proof

/-- A command word, and the data of one bus transaction: 32 bits (R201, R300). -/
abbrev Word := BitVec 32

/-- A byte address of CORE's one address space, 0x0000 to 0xFFFF (R200). -/
abbrev HostAddr := BitVec 16

end Sys2Proof
end

