-- ==== Sys2Proof/Syntax.lean ====
section
/-! DEFINITION. The 42 commands of the opcode map (30_encoding.md R304), one constructor a row, with the operands of
R307 in the field order d, a, b, c. Fields that the row marks z have no operand. -/

namespace Sys2Proof

/-- An `f` field: the index of a GF(p) component register F[0..63] (R301). -/
abbrev FReg := Fin 64
/-- An `e` field: the index of a GF(p^2) register E[0..31] (R301). -/
abbrev EReg := Fin 32
/-- An `n` field: the index of a point register P[0..15] (R301). -/
abbrev PReg := Fin 16
/-- The unsigned 18-bit immediate of format I (R300). -/
abbrev Imm18 := BitVec 18

inductive Instr where
  -- 40_gfp.md: control
  | nop
  | config
  -- 40_gfp.md: GF(p)
  | fpadd (d a b : FReg)
  | fpsub (d a b : FReg)
  | fpmul (d a b : FReg)
  | fpsqr (d a : FReg)
  | fpneg (d a : FReg)
  | fpdiv2 (d a : FReg)
  | fpmov (d a : FReg)
  | fpseti (d : FReg) (imm : Imm18)
  | fpcswap (a b : FReg)
  | fpcsel (d a b : FReg)
  | fptest (a b : FReg)
  -- 41_gfp2.md: GF(p^2)
  | fp2add (d a b : EReg)
  | fp2sub (d a b : EReg)
  | fp2mul (d a b : EReg)
  | fp2sqr (d a : EReg)
  | fp2neg (d a : EReg)
  | fp2div2 (d a : EReg)
  | fp2mov (d a : EReg)
  | fp2cswap (a b : EReg)
  | fp2csel (d a b : EReg)
  | fp2test (a b : EReg)
  -- 42_inverse.md: the modular inverse unit
  | fpinv (d a : FReg)
  | fp2inv (d a : EReg)
  | inv3 (d : EReg)
  | inv4 (d : EReg)
  -- 43_curve.md: Montgomery curve commands
  | cset (a b : EReg)
  | cget (d a : EReg)
  | xdbl (d a : PReg)
  | xtpl (d a : PReg)
  | xadd (d a b : PReg) (c : EReg)
  | xdbladd (d a : PReg) (b : EReg)
  | pcswap (a b : PReg)
  | jinv (d : EReg)
  | recova (d a b c : EReg)
  -- 44_ladder.md
  | ladder (d : PReg) (a b c : EReg)
  -- 45_isogeny.md
  | get3 (a : PReg)
  | eval3 (d a : PReg)
  | get4 (a : PReg)
  | eval4 (d a : PReg)
  | get4f
deriving DecidableEq, Repr

end Sys2Proof
end

