-- ==== Sys2Proof/WellFormed.lean ====
section
/-! DEFINITION. Which terms of Instr are legal commands. The kinds f, e, n and imm18 of R301 are the operands' types;
what is left to check is the narrower range of d that R301 gives INV3 and INV4. -/

namespace Sys2Proof

/-- R301: "INV3 needs d ≤ 29 and INV4 needs d ≤ 28". Every other command is legal for every operand of its type. -/
def Instr.wf : Instr → Bool
  | .inv3 d => decide (d.val ≤ 29)
  | .inv4 d => decide (d.val ≤ 28)
  | .nop | .config | .fpadd _ _ _ | .fpsub _ _ _ | .fpmul _ _ _ | .fpsqr _ _ | .fpneg _ _ | .fpdiv2 _ _
  | .fpmov _ _ | .fpseti _ _ | .fpcswap _ _ | .fpcsel _ _ _ | .fptest _ _ | .fp2add _ _ _ | .fp2sub _ _ _
  | .fp2mul _ _ _ | .fp2sqr _ _ | .fp2neg _ _ | .fp2div2 _ _ | .fp2mov _ _ | .fp2cswap _ _ | .fp2csel _ _ _
  | .fp2test _ _ | .fpinv _ _ | .fp2inv _ _ | .cset _ _ | .cget _ _ | .xdbl _ _ | .xtpl _ _ | .xadd _ _ _ _
  | .xdbladd _ _ _ | .pcswap _ _ | .jinv _ | .recova _ _ _ _ | .ladder _ _ _ _ | .get3 _ | .eval3 _ _
  | .get4 _ | .eval4 _ _ | .get4f => true

end Sys2Proof
end

