-- ==== Sys2Proof/Decode.lean ====
section
/-! DEFINITION. From a 32-bit command word to a command, and back (30_encoding.md R300 to R305). Decoding is total: a word
that R303 calls illegal is `none`, and Step.lean completes it with E_ILLEGAL. -/

namespace Sys2Proof

/-! The fields of a word (R300): op 31:24, d 23:18, a 17:12, b 11:6, c 5:0, and imm18 17:0. -/

def opField (v : Word) : BitVec 8 := v.extractLsb' 24 8
def dField (v : Word) : BitVec 6 := v.extractLsb' 18 6
def aField (v : Word) : BitVec 6 := v.extractLsb' 12 6
def bField (v : Word) : BitVec 6 := v.extractLsb' 6 6
def cField (v : Word) : BitVec 6 := v.extractLsb' 0 6
def immField (v : Word) : BitVec 18 := v.extractLsb' 0 18

/-! The kinds of R301. -/

/-- Kind `f`: every value 0..63 is legal. -/
def asF (x : BitVec 6) : FReg := ⟨x.toNat, x.isLt⟩
/-- Kind `e`: 0..31, so bit 5 must be clear. -/
def asE (x : BitVec 6) : Option EReg := if h : x.toNat < 32 then some ⟨x.toNat, h⟩ else none
/-- Kind `n`: 0..15, so bits 5:4 must be clear. -/
def asP (x : BitVec 6) : Option PReg := if h : x.toNat < 16 then some ⟨x.toNat, h⟩ else none
/-- Kind `z`: an unused field, "0 only". -/
def isZero (x : BitVec 6) : Option Unit := if x = 0#6 then some () else none

/-- R303 steps 1 and 2, with the narrower range of d that R301 gives INV3 and INV4: `none` is an illegal word. -/
def decodeWord (v : Word) : Option Instr :=
  match opField v with
  | 0x00#8 => do isZero (dField v); isZero (aField v); isZero (bField v); isZero (cField v); some (.nop)
  | 0x01#8 => do isZero (dField v); isZero (aField v); isZero (bField v); isZero (cField v); some (.config)
  | 0x10#8 => do isZero (cField v); some (.fpadd (asF (dField v)) (asF (aField v)) (asF (bField v)))
  | 0x11#8 => do isZero (cField v); some (.fpsub (asF (dField v)) (asF (aField v)) (asF (bField v)))
  | 0x12#8 => do isZero (cField v); some (.fpmul (asF (dField v)) (asF (aField v)) (asF (bField v)))
  | 0x13#8 => do isZero (bField v); isZero (cField v); some (.fpsqr (asF (dField v)) (asF (aField v)))
  | 0x14#8 => do isZero (bField v); isZero (cField v); some (.fpneg (asF (dField v)) (asF (aField v)))
  | 0x15#8 => do isZero (bField v); isZero (cField v); some (.fpdiv2 (asF (dField v)) (asF (aField v)))
  | 0x16#8 => do isZero (bField v); isZero (cField v); some (.fpmov (asF (dField v)) (asF (aField v)))
  | 0x17#8 => some (.fpseti (asF (dField v)) (immField v))
  | 0x18#8 => do isZero (dField v); isZero (cField v); some (.fpcswap (asF (aField v)) (asF (bField v)))
  | 0x19#8 => do isZero (cField v); some (.fpcsel (asF (dField v)) (asF (aField v)) (asF (bField v)))
  | 0x1A#8 => do isZero (dField v); isZero (cField v); some (.fptest (asF (aField v)) (asF (bField v)))
  | 0x20#8 => do let d ← asE (dField v); let a ← asE (aField v); let b ← asE (bField v); isZero (cField v); some (.fp2add d a b)
  | 0x21#8 => do let d ← asE (dField v); let a ← asE (aField v); let b ← asE (bField v); isZero (cField v); some (.fp2sub d a b)
  | 0x22#8 => do let d ← asE (dField v); let a ← asE (aField v); let b ← asE (bField v); isZero (cField v); some (.fp2mul d a b)
  | 0x23#8 => do let d ← asE (dField v); let a ← asE (aField v); isZero (bField v); isZero (cField v); some (.fp2sqr d a)
  | 0x24#8 => do let d ← asE (dField v); let a ← asE (aField v); isZero (bField v); isZero (cField v); some (.fp2neg d a)
  | 0x25#8 => do let d ← asE (dField v); let a ← asE (aField v); isZero (bField v); isZero (cField v); some (.fp2div2 d a)
  | 0x26#8 => do let d ← asE (dField v); let a ← asE (aField v); isZero (bField v); isZero (cField v); some (.fp2mov d a)
  | 0x28#8 => do isZero (dField v); let a ← asE (aField v); let b ← asE (bField v); isZero (cField v); some (.fp2cswap a b)
  | 0x29#8 => do let d ← asE (dField v); let a ← asE (aField v); let b ← asE (bField v); isZero (cField v); some (.fp2csel d a b)
  | 0x2A#8 => do isZero (dField v); let a ← asE (aField v); let b ← asE (bField v); isZero (cField v); some (.fp2test a b)
  | 0x30#8 => do isZero (bField v); isZero (cField v); some (.fpinv (asF (dField v)) (asF (aField v)))
  | 0x31#8 => do let d ← asE (dField v); let a ← asE (aField v); isZero (bField v); isZero (cField v); some (.fp2inv d a)
  | 0x32#8 => do let d ← asE (dField v); isZero (aField v); isZero (bField v); isZero (cField v); if d.val ≤ 29 then some (.inv3 d) else none
  | 0x33#8 => do let d ← asE (dField v); isZero (aField v); isZero (bField v); isZero (cField v); if d.val ≤ 28 then some (.inv4 d) else none
  | 0x40#8 => do isZero (dField v); let a ← asE (aField v); let b ← asE (bField v); isZero (cField v); some (.cset a b)
  | 0x41#8 => do let d ← asE (dField v); let a ← asE (aField v); isZero (bField v); isZero (cField v); some (.cget d a)
  | 0x42#8 => do let d ← asP (dField v); let a ← asP (aField v); isZero (bField v); isZero (cField v); some (.xdbl d a)
  | 0x43#8 => do let d ← asP (dField v); let a ← asP (aField v); isZero (bField v); isZero (cField v); some (.xtpl d a)
  | 0x44#8 => do let d ← asP (dField v); let a ← asP (aField v); let b ← asP (bField v); let c ← asE (cField v); some (.xadd d a b c)
  | 0x45#8 => do let d ← asP (dField v); let a ← asP (aField v); let b ← asE (bField v); isZero (cField v); some (.xdbladd d a b)
  | 0x46#8 => do isZero (dField v); let a ← asP (aField v); let b ← asP (bField v); isZero (cField v); some (.pcswap a b)
  | 0x47#8 => do let d ← asE (dField v); isZero (aField v); isZero (bField v); isZero (cField v); some (.jinv d)
  | 0x48#8 => do let d ← asE (dField v); let a ← asE (aField v); let b ← asE (bField v); let c ← asE (cField v); some (.recova d a b c)
  | 0x50#8 => do let d ← asP (dField v); let a ← asE (aField v); let b ← asE (bField v); let c ← asE (cField v); some (.ladder d a b c)
  | 0x60#8 => do isZero (dField v); let a ← asP (aField v); isZero (bField v); isZero (cField v); some (.get3 a)
  | 0x61#8 => do let d ← asP (dField v); let a ← asP (aField v); isZero (bField v); isZero (cField v); some (.eval3 d a)
  | 0x62#8 => do isZero (dField v); let a ← asP (aField v); isZero (bField v); isZero (cField v); some (.get4 a)
  | 0x63#8 => do let d ← asP (dField v); let a ← asP (aField v); isZero (bField v); isZero (cField v); some (.eval4 d a)
  | 0x64#8 => do isZero (dField v); isZero (aField v); isZero (bField v); isZero (cField v); some (.get4f)
  | _ => none

/-- The decoder on the opcode table's numbering of bits: a command is one 32-bit word (R306), so bit n of `w` is the
word's bit n, and bits above `nbits` are 0. -/
def decodeTableWord (nbits w : Nat) : Option Instr := decodeWord (BitVec.ofNat 32 (w % 2 ^ nbits))

/-! The encoder, from the same table. -/

def zero6 : BitVec 6 := 0#6
def ofF (r : FReg) : BitVec 6 := BitVec.ofNat 6 r.val
def ofE (r : EReg) : BitVec 6 := BitVec.ofNat 6 r.val
def ofP (r : PReg) : BitVec 6 := BitVec.ofNat 6 r.val

/-- Format R: `word = op<<24 | d<<18 | a<<12 | b<<6 | c` (R300). -/
def encodeR (op : BitVec 8) (d a b c : BitVec 6) : Word := op ++ d ++ a ++ b ++ c
/-- Format I: `word = op<<24 | d<<18 | imm18` (R300). -/
def encodeI (op : BitVec 8) (d : BitVec 6) (imm : Imm18) : Word := op ++ d ++ imm

def encode : Instr → Word
  | .nop => encodeR 0x00#8 zero6 zero6 zero6 zero6
  | .config => encodeR 0x01#8 zero6 zero6 zero6 zero6
  | .fpadd d a b => encodeR 0x10#8 (ofF d) (ofF a) (ofF b) zero6
  | .fpsub d a b => encodeR 0x11#8 (ofF d) (ofF a) (ofF b) zero6
  | .fpmul d a b => encodeR 0x12#8 (ofF d) (ofF a) (ofF b) zero6
  | .fpsqr d a => encodeR 0x13#8 (ofF d) (ofF a) zero6 zero6
  | .fpneg d a => encodeR 0x14#8 (ofF d) (ofF a) zero6 zero6
  | .fpdiv2 d a => encodeR 0x15#8 (ofF d) (ofF a) zero6 zero6
  | .fpmov d a => encodeR 0x16#8 (ofF d) (ofF a) zero6 zero6
  | .fpseti d imm => encodeI 0x17#8 (ofF d) imm
  | .fpcswap a b => encodeR 0x18#8 zero6 (ofF a) (ofF b) zero6
  | .fpcsel d a b => encodeR 0x19#8 (ofF d) (ofF a) (ofF b) zero6
  | .fptest a b => encodeR 0x1A#8 zero6 (ofF a) (ofF b) zero6
  | .fp2add d a b => encodeR 0x20#8 (ofE d) (ofE a) (ofE b) zero6
  | .fp2sub d a b => encodeR 0x21#8 (ofE d) (ofE a) (ofE b) zero6
  | .fp2mul d a b => encodeR 0x22#8 (ofE d) (ofE a) (ofE b) zero6
  | .fp2sqr d a => encodeR 0x23#8 (ofE d) (ofE a) zero6 zero6
  | .fp2neg d a => encodeR 0x24#8 (ofE d) (ofE a) zero6 zero6
  | .fp2div2 d a => encodeR 0x25#8 (ofE d) (ofE a) zero6 zero6
  | .fp2mov d a => encodeR 0x26#8 (ofE d) (ofE a) zero6 zero6
  | .fp2cswap a b => encodeR 0x28#8 zero6 (ofE a) (ofE b) zero6
  | .fp2csel d a b => encodeR 0x29#8 (ofE d) (ofE a) (ofE b) zero6
  | .fp2test a b => encodeR 0x2A#8 zero6 (ofE a) (ofE b) zero6
  | .fpinv d a => encodeR 0x30#8 (ofF d) (ofF a) zero6 zero6
  | .fp2inv d a => encodeR 0x31#8 (ofE d) (ofE a) zero6 zero6
  | .inv3 d => encodeR 0x32#8 (ofE d) zero6 zero6 zero6
  | .inv4 d => encodeR 0x33#8 (ofE d) zero6 zero6 zero6
  | .cset a b => encodeR 0x40#8 zero6 (ofE a) (ofE b) zero6
  | .cget d a => encodeR 0x41#8 (ofE d) (ofE a) zero6 zero6
  | .xdbl d a => encodeR 0x42#8 (ofP d) (ofP a) zero6 zero6
  | .xtpl d a => encodeR 0x43#8 (ofP d) (ofP a) zero6 zero6
  | .xadd d a b c => encodeR 0x44#8 (ofP d) (ofP a) (ofP b) (ofE c)
  | .xdbladd d a b => encodeR 0x45#8 (ofP d) (ofP a) (ofE b) zero6
  | .pcswap a b => encodeR 0x46#8 zero6 (ofP a) (ofP b) zero6
  | .jinv d => encodeR 0x47#8 (ofE d) zero6 zero6 zero6
  | .recova d a b c => encodeR 0x48#8 (ofE d) (ofE a) (ofE b) (ofE c)
  | .ladder d a b c => encodeR 0x50#8 (ofP d) (ofE a) (ofE b) (ofE c)
  | .get3 a => encodeR 0x60#8 zero6 (ofP a) zero6 zero6
  | .eval3 d a => encodeR 0x61#8 (ofP d) (ofP a) zero6 zero6
  | .get4 a => encodeR 0x62#8 zero6 (ofP a) zero6 zero6
  | .eval4 d a => encodeR 0x63#8 (ofP d) (ofP a) zero6 zero6
  | .get4f => encodeR 0x64#8 zero6 zero6 zero6 zero6

/-! The opcode map's own columns match and mask (R304), against which the decoder is stated. -/

/-- One row of R304: the bits a legal word of the command must have. -/
structure OpcodeRow where
  mnemonic : String
  matchBits : Word
  mask : Word
deriving DecidableEq, Repr

/-- A third of R304's rows, in its order. -/
def opcodeRowsA : List OpcodeRow := [
  ⟨"NOP", 0x00000000#32, 0xFFFFFFFF#32⟩,
  ⟨"CONFIG", 0x01000000#32, 0xFFFFFFFF#32⟩,
  ⟨"FPADD", 0x10000000#32, 0xFF00003F#32⟩,
  ⟨"FPSUB", 0x11000000#32, 0xFF00003F#32⟩,
  ⟨"FPMUL", 0x12000000#32, 0xFF00003F#32⟩,
  ⟨"FPSQR", 0x13000000#32, 0xFF000FFF#32⟩,
  ⟨"FPNEG", 0x14000000#32, 0xFF000FFF#32⟩,
  ⟨"FPDIV2", 0x15000000#32, 0xFF000FFF#32⟩,
  ⟨"FPMOV", 0x16000000#32, 0xFF000FFF#32⟩,
  ⟨"FPSETI", 0x17000000#32, 0xFF000000#32⟩,
  ⟨"FPCSWAP", 0x18000000#32, 0xFFFC003F#32⟩,
  ⟨"FPCSEL", 0x19000000#32, 0xFF00003F#32⟩,
  ⟨"FPTEST", 0x1A000000#32, 0xFFFC003F#32⟩,
  ⟨"FP2ADD", 0x20000000#32, 0xFF82083F#32⟩]

/-- A third of R304's rows, in its order. -/
def opcodeRowsB : List OpcodeRow := [
  ⟨"FP2SUB", 0x21000000#32, 0xFF82083F#32⟩,
  ⟨"FP2MUL", 0x22000000#32, 0xFF82083F#32⟩,
  ⟨"FP2SQR", 0x23000000#32, 0xFF820FFF#32⟩,
  ⟨"FP2NEG", 0x24000000#32, 0xFF820FFF#32⟩,
  ⟨"FP2DIV2", 0x25000000#32, 0xFF820FFF#32⟩,
  ⟨"FP2MOV", 0x26000000#32, 0xFF820FFF#32⟩,
  ⟨"FP2CSWAP", 0x28000000#32, 0xFFFE083F#32⟩,
  ⟨"FP2CSEL", 0x29000000#32, 0xFF82083F#32⟩,
  ⟨"FP2TEST", 0x2A000000#32, 0xFFFE083F#32⟩,
  ⟨"FPINV", 0x30000000#32, 0xFF000FFF#32⟩,
  ⟨"FP2INV", 0x31000000#32, 0xFF820FFF#32⟩,
  ⟨"INV3", 0x32000000#32, 0xFF83FFFF#32⟩,
  ⟨"INV4", 0x33000000#32, 0xFF83FFFF#32⟩,
  ⟨"CSET", 0x40000000#32, 0xFFFE083F#32⟩]

/-- A third of R304's rows, in its order. -/
def opcodeRowsC : List OpcodeRow := [
  ⟨"CGET", 0x41000000#32, 0xFF820FFF#32⟩,
  ⟨"XDBL", 0x42000000#32, 0xFFC30FFF#32⟩,
  ⟨"XTPL", 0x43000000#32, 0xFFC30FFF#32⟩,
  ⟨"XADD", 0x44000000#32, 0xFFC30C20#32⟩,
  ⟨"XDBLADD", 0x45000000#32, 0xFFC3083F#32⟩,
  ⟨"PCSWAP", 0x46000000#32, 0xFFFF0C3F#32⟩,
  ⟨"JINV", 0x47000000#32, 0xFF83FFFF#32⟩,
  ⟨"RECOVA", 0x48000000#32, 0xFF820820#32⟩,
  ⟨"LADDER", 0x50000000#32, 0xFFC20820#32⟩,
  ⟨"GET3", 0x60000000#32, 0xFFFF0FFF#32⟩,
  ⟨"EVAL3", 0x61000000#32, 0xFFC30FFF#32⟩,
  ⟨"GET4", 0x62000000#32, 0xFFFF0FFF#32⟩,
  ⟨"EVAL4", 0x63000000#32, 0xFFC30FFF#32⟩,
  ⟨"GET4F", 0x64000000#32, 0xFFFFFFFF#32⟩]

/-- The opcode map of R304. -/
def opcodeTable : List OpcodeRow := opcodeRowsA ++ opcodeRowsB ++ opcodeRowsC

end Sys2Proof
end

