-- ==== Sys2Proof/Config.lean ====
section
/-! DEFINITION. The open parameters of 92_eei_decisions.md that no rule gives a value: constants without a body,
so that no proof can see what they are. The instance parameter SLOT_BYTES is a field of State (log entry 1). -/

namespace Sys2Proof.Config

/-- LAT(op, W, PBITS, NBITS) of R1120, less one: how many cycles a command that ends without error still spends in
flight after the cycle that follows its acceptance. "any positive function of those arguments only": the latency is
this number plus one, so it is positive whatever the number is (log entry 5). -/
opaque latSuccess (op : BitVec 8) (w pbits nbits : Nat) : Nat

/-- LAT_ERR(op, code) of R1010, less one: the same for a command that ends with error `code` (log entry 5). -/
opaque latError (op code : BitVec 8) : Nat

/-- POWERON_CONTENTS of R1103: what register `i` (0 to 63 are F[0..63], 64 is MOD, 65 is SCALAR) holds after the `n`-th
assertion of the reset input in a run, before it is cut to W bits (log entry 3). -/
opaque powerOn (n i : Nat) : Nat

end Sys2Proof.Config
end

