-- ==== Sys2Proof/Machine/State.lean ====
section
/-! DEFINITION. Everything the spec says the SIDH CORE holds (10_state.md), as plain data, and the state after a hardware
reset (10_state.md R150, 70_reset_and_hazards.md R1100). The last three fields of State are the model's own. -/

namespace Sys2Proof.Machine

/-- The instance parameter SLOT_BYTES: "a power of two in {8, 16, 32, 64, 128, 256}" (R20). -/
inductive SlotBytes where
  | s8 | s16 | s32 | s64 | s128 | s256
deriving DecidableEq, Repr

/-- SLOT_BYTES as a number (R20). -/
def SlotBytes.bytes : SlotBytes → Nat
  | .s8 => 8 | .s16 => 16 | .s32 => 32 | .s64 => 64 | .s128 => 128 | .s256 => 256

/-- "The raw width of every GF(p) register, of the modulus register and of the scalar register is W = 8*SLOT_BYTES
bits" (R20). -/
def SlotBytes.width (b : SlotBytes) : Nat := 8 * b.bytes

/-- A GF(p^2) value: the constant component and the i-component (R33, R102). -/
structure Gfp2 where
  c0 : Nat
  c1 : Nat
deriving DecidableEq, Repr

/-- The pair (0, 0). -/
def Gfp2.zero : Gfp2 := ⟨0, 0⟩

/-- An x-only projective point (X : Z) (R36, R103). -/
structure Point where
  x : Gfp2
  z : Gfp2
deriving DecidableEq, Repr

/-- The five curve registers (R110). -/
structure CurveRegs where
  ca : Gfp2
  cc : Gfp2
  ca24p : Gfp2
  ca24m : Gfp2
  cc24 : Gfp2
deriving DecidableEq, Repr

def CurveRegs.zero : CurveRegs := ⟨.zero, .zero, .zero, .zero, .zero⟩

/-- The five coefficient registers COEF[0..4] (R112). -/
structure CoefRegs where
  k0 : Gfp2
  k1 : Gfp2
  k2 : Gfp2
  k3 : Gfp2
  k4 : Gfp2
deriving DecidableEq, Repr

def CoefRegs.zero : CoefRegs := ⟨.zero, .zero, .zero, .zero, .zero⟩

/-- ISO.ST (R115): "The value 3 never occurs". -/
inductive IsoSt where
  | uncomputed | computed | evaluated
deriving DecidableEq, Repr

/-- ISO.TAG (R115). -/
inductive IsoTag where
  | untagged  -- NONE
  | deg3
  | deg4
  | deg4f
deriving DecidableEq, Repr

/-- The isogeny state ISO (R115). -/
structure Iso where
  st : IsoSt
  tag : IsoTag
deriving DecidableEq, Repr

def Iso.initial : Iso := ⟨.uncomputed, .untagged⟩

/-- The FLAGS register's four bits (R120). -/
structure Flags where
  eq : Bool
  lt : Bool
  odd : Bool
  zinv : Bool
deriving DecidableEq, Repr

def Flags.clear : Flags := ⟨false, false, false, false⟩

/-- The error codes of R1001; 0x09 to 0xFF are "never produced by this revision". -/
inductive ErrCode where
  | eNone | eIllegal | eNocfg | eBadmod | eNoncanon | eAlias | eSel | eIsostate | eParam
deriving DecidableEq, Repr

/-- The command in flight (R125): its word and the latency counter, in cycles still to pass before its completion. The
operand values read at issue are those of the registers, which nothing can change while it is in flight (log entry 4). -/
structure InFlight where
  word : Word
  left : Nat
deriving DecidableEq, Repr

/-- What kind of transaction the host makes (R201). Only `word` is legal, and a write also needs all four byte lanes. -/
inductive AccessKind where
  | byte | half | word | burst | locked
deriving DecidableEq, Repr

/-- What the host does to CORE in one clock cycle (20_memory.md R201, 70_reset_and_hazards.md R1100). -/
inductive HostEvent where
  /-- A bus read at a byte address. -/
  | read (addr : HostAddr) (kind : AccessKind)
  /-- A bus write at a byte address, with its byte enables (bit n of `lanes` enables data bits 8n+7 to 8n). -/
  | write (addr : HostAddr) (kind : AccessKind) (lanes : BitVec 4) (data : Word)
  /-- A cycle without a transaction. -/
  | idle
  /-- The host makes no transaction until no command is in flight (log entry 8). -/
  | wait
  /-- The reset input `rst` is asserted. -/
  | rstAssert
  /-- The reset input `rst` is released. -/
  | rstRelease
deriving DecidableEq, Repr

/-- CORE's answer to one bus transaction (R210 to R212). A bus error carries no data (log entry 9). -/
inductive BusResp where
  | data (v : Word)
  | written
  | error
deriving DecidableEq, Repr

structure State where
  /-- The instance parameter SLOT_BYTES (R20). No step changes it. -/
  slot : SlotBytes
  /-- F[0..63] (R101); E and P are views of it (R102, R103). Each holds a raw unsigned integer below 2^W. -/
  f : Vector Nat 64
  /-- MOD (R104). -/
  mod : Nat
  /-- SCALAR (R106). -/
  scalar : Nat
  /-- CA, CC, CA24P, CA24M, CC24 (R110). -/
  curve : CurveRegs
  /-- COEF[0..4] (R112). -/
  coef : CoefRegs
  /-- ISO (R115, R140). -/
  iso : Iso
  /-- FLAGS (R120, R137). -/
  flags : Flags
  /-- SEL (R121, R138). -/
  sel : BitVec 32
  /-- NBITS (R122, R139). -/
  nbits : BitVec 16
  /-- CTRL.IRQ_EN (R132). -/
  irqEn : Bool
  /-- STATUS.DONE (R133). -/
  done : Bool
  /-- STATUS.ERR (R133). -/
  err : Bool
  /-- STATUS.CFG_OK (R105, R133). -/
  cfgOk : Bool
  /-- STATUS.OVR (R133). -/
  ovr : Bool
  /-- ERRCODE (R135). -/
  errcode : ErrCode
  /-- LASTCMD (R136). -/
  lastcmd : Word
  /-- PBITS (R141). -/
  pbits : Nat
  /-- The command in flight; STATUS.BUSY is 1 exactly when there is one (R125). -/
  inflight : Option InFlight
  /-- The level of the reset input `rst` (R1100). -/
  inReset : Bool
  /-- The model's own: what the host does in the cycles to come, the next one first (log entry 7). -/
  host : List HostEvent
  /-- The model's own: CORE's answer to the last bus transaction (log entry 14). -/
  resp : Option BusResp
  /-- The model's own: how often `rst` has been asserted, the counter of the free power-on contents (log entry 3). -/
  resets : Nat
deriving DecidableEq, Repr

/-- The state after a hardware reset of an instance (R150 column H): `contents` gives POWERON_CONTENTS, register 64 being
MOD and 65 SCALAR (R1103), cut to W bits. -/
def State.powerUp (slot : SlotBytes) (contents : Nat → Nat) : State where
  slot := slot
  f := Vector.ofFn fun i => contents i.val % 2 ^ slot.width
  mod := contents 64 % 2 ^ slot.width
  scalar := contents 65 % 2 ^ slot.width
  curve := .zero
  coef := .zero
  iso := .initial
  flags := .clear
  sel := 0#32
  nbits := 0#16
  irqEn := false
  done := false
  err := false
  cfgOk := false
  ovr := false
  errcode := .eNone
  lastcmd := 0#32
  pbits := 0
  inflight := none
  inReset := false
  host := []
  resp := none
  resets := 0

/-- The machine right after reset: the reference instance, SLOT_BYTES = 128 (R20, log entry 1), with F, MOD and SCALAR,
for which the spec promises no value, at 0 (DESIGN CHOICE, log entry 2). -/
def State.reset : State := State.powerUp .s128 fun _ => 0

/-- Why the machine stops with a fault: never. "No behaviour of CORE is stuck: every command completes, and every bus
access ends" (93_implementation_defined.md), and "CORE has no traps" (R1000), so no meaning raises a fault and the type
has no constructor. -/
inductive Fault where
deriving DecidableEq, Repr

/-- Why exec gives an instruction no meaning. -/
inductive Refusal where
  /-- The instruction's arm of exec has no meaning yet. No arm raises it: all 42 commands are modelled. Safe. -/
  | notModelled (mnemonic : String)
deriving DecidableEq, Repr

end Sys2Proof.Machine
end

