-- ==== Sys2Proof/Machine/Field.lean ====
section
/-! DEFINITION. Arithmetic over GF(p) and GF(p^2) = GF(p)[i]/(i^2+1) on values (00_scope.md R30 to R33, 40_gfp.md R402
and R415, 42_inverse.md R600 and R610). `p` is the configured modulus. Every result lies in [0, p) for p > 0. -/

namespace Sys2Proof.Machine

/-- `addp(a,b) = (a+b) mod p` (R32). -/
def addp (p a b : Nat) : Nat := (a + b) % p
/-- `subp(a,b) = (a-b) mod p` (R32): the remainder in [0, p), so a multiple of p is added before subtracting. -/
def subp (p a b : Nat) : Nat := (a + (p - b % p)) % p
/-- `mulp(a,b) = (a*b) mod p` (R32). -/
def mulp (p a b : Nat) : Nat := (a * b) % p
/-- `negp(a) = (-a) mod p` (R32). -/
def negp (p a : Nat) : Nat := (p - a % p) % p
/-- `kp(c) = c mod p` (R32). -/
def kp (p c : Nat) : Nat := c % p
/-- The division by two of R415: "add modulus if odd, then shift". -/
def div2p (p x : Nat) : Nat := (if x % 2 = 1 then x + p else x) / 2

/-- `bitlength(v)`: "the position of the highest set bit plus one; bitlength(0) = 0" (R30). -/
def bitlength (v : Nat) : Nat := if v = 0 then 0 else v.log2 + 1

/-- `b^e mod m` by squaring, over the low `n` bits of e. -/
def powModBits (m b : Nat) : Nat → Nat → Nat
  | 0, _ => 1 % m
  | n + 1, e =>
    let h := powModBits m b n (e / 2)
    if e % 2 = 1 then h * h % m * b % m else h * h % m

/-- `b^e mod m` (proved in Laws/Field.lean): the fixed exponentiation of R600 and R402. -/
def powMod (m b e : Nat) : Nat := powModBits m b (bitlength e) e

/-- `invp(a) = a^(p-2) mod p` (R600); `invp(0) = 0`. -/
def invp (p a : Nat) : Nat := powMod p a (p - 2)

/-- MR_BASES (R21). -/
def mrBases : List Nat := [2, 3, 5, 7, 11, 13, 17, 19, 23, 29, 31, 37]

/-- Condition 3 of R402 for one base. -/
def strongProbable (m q : Nat) : Bool :=
  q % m == 0 || (let t := powMod m q ((m - 1) / 2); t == 1 || t == m - 1)

/-- The acceptance predicate of R402 on an instance of width w: m mod 4 = 3, bitlength(m) ≤ PMAX_BITS = W - 1, and the
test to every base. -/
def acceptMod (w m : Nat) : Bool :=
  m % 4 == 3 && (decide (bitlength m ≤ w - 1) && mrBases.all (strongProbable m))

/-! GF(p^2), componentwise (R33). -/

def add2 (p : Nat) (x y : Gfp2) : Gfp2 := ⟨addp p x.c0 y.c0, addp p x.c1 y.c1⟩
def sub2 (p : Nat) (x y : Gfp2) : Gfp2 := ⟨subp p x.c0 y.c0, subp p x.c1 y.c1⟩
def neg2 (p : Nat) (x : Gfp2) : Gfp2 := ⟨negp p x.c0, negp p x.c1⟩
/-- The division by two of R515, on both components. -/
def div2 (p : Nat) (x : Gfp2) : Gfp2 := ⟨div2p p x.c0, div2p p x.c1⟩
def mul2 (p : Nat) (x y : Gfp2) : Gfp2 :=
  ⟨subp p (mulp p x.c0 y.c0) (mulp p x.c1 y.c1), addp p (mulp p x.c0 y.c1) (mulp p x.c1 y.c0)⟩
/-- `sqr2(x) = mul2(x,x)` (R33). -/
def sqr2 (p : Nat) (x : Gfp2) : Gfp2 := mul2 p x x
/-- `k2(c) = (kp(c), 0)` (R33). -/
def k2 (p c : Nat) : Gfp2 := ⟨kp p c, 0⟩

/-- The norm x0^2 + x1^2 of R610. -/
def norm2 (p : Nat) (x : Gfp2) : Nat := addp p (mulp p x.c0 x.c0) (mulp p x.c1 x.c1)

/-- `inv2(x)`, "the conjugate over the norm" (R610). -/
def inv2 (p : Nat) (x : Gfp2) : Gfp2 :=
  let ni := invp p (norm2 p x)
  ⟨mulp p x.c0 ni, mulp p (negp p x.c1) ni⟩

end Sys2Proof.Machine
end

