-- ==== Sys2Proof/Machine/Ops.lean ====
section
/-! DEFINITION. The named operations over the registers, and the common execution frame of every command: its checks in
the order of 60_exceptions.md R1002, and its completion (R1010). CORE has no traps (R1000): an error completion is what
other machines call taking an exception, and there is nothing to return from (R1021). -/

namespace Sys2Proof.Machine

/-- `F[r]` (R31). -/
def State.F (s : State) (r : FReg) : Nat := s.f[r.val]
/-- `F[r] <- v` (R31). -/
def State.setF (s : State) (r : FReg) (v : Nat) : State := { s with f := s.f.set r.val v }
/-- All five curve registers "in the same completion" (R111). -/
def State.setCurve (s : State) (c : CurveRegs) : State := { s with curve := c }
/-- All five COEF registers (R112). -/
def State.setCoef (s : State) (c : CoefRegs) : State := { s with coef := c }
/-- ISO (R115). -/
def State.setIso (s : State) (i : Iso) : State := { s with iso := i }
/-- FLAGS (R120). -/
def State.setFlags (s : State) (f : Flags) : State := { s with flags := f }
/-- STATUS.CFG_OK ← 1 and PBITS, as CONFIG writes them (R401). -/
def State.setConfigured (s : State) (bits : Nat) : State := { s with cfgOk := true, pbits := bits }

/-- STATUS.BUSY: "a command is in flight" (R125, R133). -/
def State.busy (s : State) : Bool := s.inflight.isSome

/-- The interrupt output: `irq = STATUS.DONE AND CTRL.IRQ_EN` (R1020). -/
def State.irq (s : State) : Bool := s.done && s.irqEn

/-- `finish(code)` of R1010, after the commit: ERRCODE ← code, ERR ← 1 if code ≠ E_NONE, DONE ← 1, BUSY ← 0. -/
def State.finish (s : State) (code : ErrCode) : State :=
  { s with errcode := code, err := s.err || decide (code ≠ .eNone), done := true, inflight := none }

/-- What a command's frame checks (R1002, R1004), each for the command at hand. -/
structure Checks where
  /-- The narrower range of d that R301 gives INV3 and INV4 is broken. -/
  illegal : Bool := false
  /-- E_NOCFG applies: every command but NOP and CONFIG. -/
  needsCfg : Bool := true
  /-- The two destinations name one register: CGET and XDBLADD with d = a. -/
  aliased : Bool := false
  /-- NBITS > W makes it E_PARAM: LADDER. -/
  usesNbits : Bool := false
  /-- SEL ∉ {0, 1} makes it E_SEL: the conditional swaps and selects. -/
  usesSel : Bool := false
  /-- The tags that ISO.TAG must be among: EVAL3 and EVAL4. -/
  tags : Option (List IsoTag) := none
  /-- The GF(p) components it reads from F, E or P (R1004). -/
  sources : List FReg := []
  /-- CONFIG finds accept(MOD) false. -/
  badmod : Bool := false

/-- Whether ISO.TAG is not among the tags a command needs. -/
def wrongTag (tags : Option (List IsoTag)) (tag : IsoTag) : Bool :=
  match tags with
  | none => false
  | some l => !l.contains tag

/-- "The first one that fails decides the error code" (R1002). -/
def Checks.verdict (c : Checks) (s : State) : ErrCode :=
  if c.illegal then .eIllegal
  else if c.needsCfg && !s.cfgOk then .eNocfg
  else if c.aliased then .eAlias
  else if c.usesNbits && decide (s.slot.width < s.nbits.toNat) then .eParam
  else if c.usesSel && !(s.sel == 0#32 || s.sel == 1#32) then .eSel
  else if wrongTag c.tags s.iso.tag then .eIsostate
  else if c.sources.any (fun r => decide (s.mod ≤ s.F r)) then .eNoncanon
  else if c.badmod then .eBadmod
  else .eNone

/-- The common execution frame (R1002, R1010): a failing check completes the command with its code and nothing else
changes; otherwise `effect` gives the state with the command's destinations, flags and ISO written from the pre-state,
and the command completes with E_NONE. -/
def command (c : Checks) (effect : State) (s : State) : Host.Outcome State Fault Refusal :=
  match c.verdict s with
  | .eNone => .next (effect.finish .eNone)
  | code => .next (s.finish code)

end Sys2Proof.Machine
end

