-- ==== Sys2Proof/Machine/Operands.lean ====
section
/-! DEFINITION. The operand forms: the E and P views of the F registers (10_state.md R102, R103), the components a source
operand makes a command check (60_exceptions.md R1004), and the selector (10_state.md R121). -/

namespace Sys2Proof

/-- F[2r], the constant component of E[r] (R102). -/
def EReg.lo (r : EReg) : FReg := ⟨2 * r.val, by omega⟩
/-- F[2r+1], the i-component of E[r] (R102). -/
def EReg.hi (r : EReg) : FReg := ⟨2 * r.val + 1, by omega⟩
/-- E[2n], the X of P[n] (R103). -/
def PReg.x (n : PReg) : EReg := ⟨2 * n.val, by omega⟩
/-- E[2n+1], the Z of P[n] (R103). -/
def PReg.z (n : PReg) : EReg := ⟨2 * n.val + 1, by omega⟩
/-- E[r+k], for the registers after E[r] that INV3 and INV4 use; with d in their range it does not wrap. -/
def EReg.plus (r : EReg) (k : Nat) : EReg := ⟨(r.val + k) % 32, Nat.mod_lt _ (by decide)⟩

/-- The two GF(p) components of E[r]. -/
def EReg.comps (r : EReg) : List FReg := [EReg.lo r, EReg.hi r]
/-- The four GF(p) components of P[n]. -/
def PReg.comps (n : PReg) : List FReg := EReg.comps (PReg.x n) ++ EReg.comps (PReg.z n)

end Sys2Proof

namespace Sys2Proof.Machine

/-- `E[r]` (R31, R102). -/
def State.E (s : State) (r : EReg) : Gfp2 := ⟨s.F (EReg.lo r), s.F (EReg.hi r)⟩
/-- `E[r] <- v` writes both components (R31). -/
def State.setE (s : State) (r : EReg) (v : Gfp2) : State := (s.setF (EReg.lo r) v.c0).setF (EReg.hi r) v.c1
/-- `P[n]` (R31, R103). -/
def State.P (s : State) (n : PReg) : Point := ⟨s.E (PReg.x n), s.E (PReg.z n)⟩
/-- `P[n] <- (X, Z)` writes both (R31). -/
def State.setP (s : State) (n : PReg) (v : Point) : State := (s.setE (PReg.x n) v.x).setE (PReg.z n) v.z

/-- The selector bit: SEL = 1 (R121). The commands that use it have checked SEL ∈ {0, 1}. -/
def State.selBit (s : State) : Bool := s.sel == 1#32

/-- The conditional swap's pair: (x, y) for a selector of 0, (y, x) for 1 (R450). -/
def swapIf {α : Type} (b : Bool) (x y : α) : α × α := if b then (y, x) else (x, y)
/-- The conditional select: the second operand for a selector of 1 (R451). -/
def selectIf {α : Type} (b : Bool) (x y : α) : α := if b then y else x

end Sys2Proof.Machine
end

