-- ==== Sys2Proof/Machine/Control.lean ====
section
/-! DEFINITION. The control commands NOP and CONFIG (40_gfp.md section 1). -/

namespace Sys2Proof.Machine

/-- NOP (R400): "It does nothing and completes without error. It is legal while CFG_OK = 0". -/
def execNop (s : State) : Host.Outcome State Fault Refusal := command { needsCfg := false } s s

/-- CONFIG (R401): legal while CFG_OK = 0; E_BADMOD when accept(MOD) is false. -/
def execConfig (s : State) : Host.Outcome State Fault Refusal :=
  command { needsCfg := false, badmod := !acceptMod s.slot.width s.mod }
    (((((s.setConfigured (bitlength s.mod)).setCurve .zero).setCoef .zero).setIso .initial).setFlags .clear) s

end Sys2Proof.Machine
end

