-- ==== Sys2Proof/Machine/Flags.lean ====
section
/-! DEFINITION. Every computation of a FLAGS bit (10_state.md R120): the tests of 40_gfp.md R460 and 41_gfp2.md R560, and
the zero-inverse flag of 42_inverse.md R601. -/

namespace Sys2Proof.Machine

/-- FPTEST's flags: EQ, LT "as integers in [0, p)", ODD = x[0]; "FLAGS.ZINV unchanged" (R460). -/
def Flags.ofTest (old : Flags) (x y : Nat) : Flags :=
  { old with eq := x == y, lt := decide (x < y), odd := x % 2 == 1 }

/-- FP2TEST's flags: EQ of both components, LT and ODD 0, ZINV unchanged (R560). -/
def Flags.ofTest2 (old : Flags) (x y : Gfp2) : Flags :=
  { old with eq := x.c0 == y.c0 && x.c1 == y.c1, lt := false, odd := false }

/-- ZINV after invp has received `n`: set when n = 0, and sticky (R601). -/
def Flags.noteInverse (old : Flags) (n : Nat) : Flags := { old with zinv := old.zinv || n == 0 }

/-- FLAGS ← its value after a command whose invp received `n` (R601). -/
def State.noteInverse (s : State) (n : Nat) : State := s.setFlags (s.flags.noteInverse n)

end Sys2Proof.Machine
end

