-- ==== Sys2Proof/Machine/Formulas.lean ====
section
/-! DEFINITION. The sequences of GF(p^2) operations that the curve, ladder, isogeny and batch-inverse rules fix, on
values: one function per rule, in the rule's own order of operations and with its own names. -/

namespace Sys2Proof.Machine

/-- The XDBL formula (43_curve.md R710). -/
def xdblFormula (p : Nat) (ca24p cc24 : Gfp2) (s : Point) : Point :=
  let t0 := sqr2 p (sub2 p s.x s.z)
  let t1 := sqr2 p (add2 p s.x s.z)
  let z2 := mul2 p cc24 t0
  let x2 := mul2 p t1 z2
  let t1 := sub2 p t1 t0
  let t0 := mul2 p ca24p t1
  let z2 := add2 p z2 t0
  let z2 := mul2 p z2 t1
  ⟨x2, z2⟩

/-- The XTPL formula (43_curve.md R711). -/
def xtplFormula (p : Nat) (ca24p ca24m : Gfp2) (s : Point) : Point :=
  let t0 := sub2 p s.x s.z
  let t2 := sqr2 p t0
  let t1 := add2 p s.x s.z
  let t3 := sqr2 p t1
  let t4 := add2 p t0 t1
  let t0 := sub2 p t1 t0
  let t1 := sqr2 p t4
  let t1 := sub2 p t1 t3
  let t1 := sub2 p t1 t2
  let t5 := mul2 p t3 ca24p
  let t3 := mul2 p t3 t5
  let t6 := mul2 p ca24m t2
  let t2 := mul2 p t2 t6
  let t3 := sub2 p t2 t3
  let t2 := sub2 p t5 t6
  let t1 := mul2 p t1 t2
  let t2 := add2 p t3 t1
  let t2 := sqr2 p t2
  let x3 := mul2 p t4 t2
  let t1 := sub2 p t3 t1
  let t1 := sqr2 p t1
  let z3 := mul2 p t0 t1
  ⟨x3, z3⟩

/-- The XADD formula (43_curve.md R712). -/
def xaddFormula (p : Nat) (a b : Point) (xd : Gfp2) : Point :=
  let t0 := mul2 p (add2 p a.x a.z) (sub2 p b.x b.z)
  let t1 := mul2 p (sub2 p a.x a.z) (add2 p b.x b.z)
  ⟨sqr2 p (add2 p t0 t1), mul2 p xd (sqr2 p (sub2 p t0 t1))⟩

/-- The denominator of the j-invariant, C^4 (A^2 - 4C^2) (43_curve.md R730). -/
def jinvDen (p : Nat) (a c : Gfp2) : Gfp2 :=
  let a2 := sqr2 p a
  let c2 := sqr2 p c
  mul2 p (sqr2 p c2) (sub2 p a2 (mul2 p (k2 p 4) c2))

/-- The numerator of the j-invariant, 256 (A^2 - 3C^2)^3 (43_curve.md R730). -/
def jinvNum (p : Nat) (a c : Gfp2) : Gfp2 :=
  let num := sub2 p (sqr2 p a) (mul2 p (k2 p 3) (sqr2 p c))
  mul2 p (k2 p 256) (mul2 p num (sqr2 p num))

/-- The denominator 4 xP xQ xR of A-recovery (43_curve.md R740). -/
def recovaDen (p : Nat) (xP xQ xR : Gfp2) : Gfp2 := mul2 p (k2 p 4) (mul2 p (mul2 p xP xQ) xR)

/-- The value of A-recovery (43_curve.md R740). -/
def recovaFormula (p : Nat) (xP xQ xR : Gfp2) : Gfp2 :=
  let t := add2 p (mul2 p xP xQ) (mul2 p xR (add2 p xP xQ))
  let t := sqr2 p (sub2 p t (k2 p 1))
  sub2 p (mul2 p t (inv2 p (recovaDen p xP xQ xR))) (add2 p (add2 p xP xQ) xR)

/-- The three points R0, R1, R2 of the ladder (44_ladder.md R801). -/
structure LadderRegs where
  r0 : Point
  r1 : Point
  r2 : Point
deriving DecidableEq, Repr

/-- What the ladder reads beside the scalar: the curve registers CA24P and CC24, and xP, xQ, xPQ (44_ladder.md R800). -/
structure LadderInput where
  ca24p : Gfp2
  cc24 : Gfp2
  xP : Gfp2
  xQ : Gfp2
  xPQ : Gfp2
deriving DecidableEq, Repr

/-- One iteration of R801 on bit `bit`: "Every formula in one iteration reads the values R0, R1 and R2 from before that
iteration". -/
def ladderStep (p : Nat) (c : LadderInput) (bit : Bool) (r : LadderRegs) : LadderRegs :=
  if bit then
    ⟨xaddFormula p r.r0 r.r1 c.xQ, xdblFormula p c.ca24p c.cc24 r.r1, xaddFormula p r.r2 r.r1 c.xPQ⟩
  else
    ⟨xdblFormula p c.ca24p c.cc24 r.r0, xaddFormula p r.r0 r.r1 c.xQ, xaddFormula p r.r2 r.r0 c.xP⟩

/-- The iterations of R801 for the bits n-1 down to 0 of m. -/
def ladderLoop (p : Nat) (c : LadderInput) (m : Nat) : Nat → LadderRegs → LadderRegs
  | 0, r => r
  | n + 1, r => ladderLoop p c m n (ladderStep p c (m.testBit n) r)

/-- R0 = (1 : 0), R1 = (xQ : 1), R2 = (xP : 1) (R801). -/
def ladderStart (p : Nat) (c : LadderInput) : LadderRegs :=
  ⟨⟨k2 p 1, k2 p 0⟩, ⟨c.xQ, k2 p 1⟩, ⟨c.xP, k2 p 1⟩⟩

/-- `LADDER3` of R801: the R2 left after n iterations. -/
def ladder3 (p : Nat) (c : LadderInput) (m n : Nat) : Point := (ladderLoop p c m n (ladderStart p c)).r2

/-- The curve that CSET loads from (A, C) (43_curve.md R700), and GET4F from (A', C') (45_isogeny.md R920). -/
def curveOf (p : Nat) (a c : Gfp2) : CurveRegs :=
  let cc := add2 p c c
  ⟨a, c, add2 p a cc, sub2 p a cc, add2 p cc cc⟩

/-- The c0 = X - Z and c1 = X + Z of GET3 (45_isogeny.md R900): COEF[0] and COEF[1]. -/
def get3Coef (p : Nat) (k : Point) : CoefRegs := ⟨sub2 p k.x k.z, add2 p k.x k.z, .zero, .zero, .zero⟩

/-- The codomain of GET3 (45_isogeny.md R900). -/
def get3Curve (p : Nat) (k : Point) : CurveRegs :=
  let c0 := sub2 p k.x k.z
  let c1 := add2 p k.x k.z
  let t0 := sqr2 p c0
  let t1 := sqr2 p c1
  let t2 := add2 p t0 t1
  let t3 := sqr2 p (add2 p c0 c1)
  let t3 := sub2 p t3 t2
  let t2 := add2 p t1 t3
  let t3 := add2 p t3 t0
  let t4 := add2 p t0 t3
  let t4 := add2 p t4 t4
  let t4 := add2 p t1 t4
  let a24m := mul2 p t2 t4
  let t4 := add2 p t1 t2
  let t4 := add2 p t4 t4
  let t4 := add2 p t0 t4
  let a24p := mul2 p t3 t4
  let c24 := sub2 p a24p a24m
  let a := add2 p a24p a24m
  let a := add2 p a a
  ⟨a, c24, a24p, a24m, c24⟩

/-- The 3-isogeny's value at a point (45_isogeny.md R905). -/
def eval3Formula (p : Nat) (co : CoefRegs) (s : Point) : Point :=
  let t0 := mul2 p (add2 p s.x s.z) co.k0
  let t1 := mul2 p (sub2 p s.x s.z) co.k1
  ⟨mul2 p s.x (sqr2 p (add2 p t0 t1)), mul2 p s.z (sqr2 p (sub2 p t1 t0))⟩

/-- COEF after GET4 (45_isogeny.md R910): 4Z^2, X - Z, X + Z. -/
def get4Coef (p : Nat) (k : Point) : CoefRegs :=
  let c0 := sqr2 p k.z
  let c0 := add2 p c0 c0
  let c0 := add2 p c0 c0
  ⟨c0, sub2 p k.x k.z, add2 p k.x k.z, .zero, .zero⟩

/-- The codomain of GET4 (45_isogeny.md R910). -/
def get4Curve (p : Nat) (k : Point) : CurveRegs :=
  let c0 := sqr2 p k.z
  let c0 := add2 p c0 c0
  let c24 := sqr2 p c0
  let a24p := sqr2 p k.x
  let a24p := add2 p a24p a24p
  let a24p := sqr2 p a24p
  let a24m := sub2 p a24p c24
  let a := sub2 p (mul2 p (k2 p 4) a24p) (add2 p c24 c24)
  ⟨a, c24, a24p, a24m, c24⟩

/-- The interior 4-isogeny's value at a point, for TAG = DEG4 (45_isogeny.md R915). -/
def eval4Formula (p : Nat) (co : CoefRegs) (s : Point) : Point :=
  let t0 := add2 p s.x s.z
  let t1 := sub2 p s.x s.z
  let u := mul2 p t0 co.k1
  let v := mul2 p t1 co.k2
  let w := mul2 p (mul2 p t0 t1) co.k0
  let s := sqr2 p (add2 p u v)
  let t := sqr2 p (sub2 p u v)
  ⟨mul2 p (add2 p s w) s, mul2 p t (sub2 p t w)⟩

/-- The first 4-isogeny's value at a point, for TAG = DEG4F (45_isogeny.md R915). -/
def eval4fFormula (p : Nat) (co : CoefRegs) (q : Point) : Point :=
  let s := sqr2 p (add2 p q.x q.z)
  let xz := mul2 p q.x q.z
  ⟨mul2 p s (add2 p (mul2 p co.k0 s) (mul2 p co.k1 xz)),
   neg2 p (mul2 p (mul2 p co.k1 xz) (sqr2 p (sub2 p q.x q.z)))⟩

/-- k1 = A - 2C of GET4F (45_isogeny.md R920). -/
def get4fK1 (p : Nat) (a c : Gfp2) : Gfp2 := sub2 p a (add2 p c c)

/-- The codomain of GET4F from (CA, CC): (A' : C') = (2A + 12C : A - 2C) (45_isogeny.md R920). -/
def get4fCurve (p : Nat) (a c : Gfp2) : CurveRegs :=
  curveOf p (add2 p (add2 p a a) (mul2 p (k2 p 12) c)) (get4fK1 p a c)

/-- COEF after GET4F: C and k1 (45_isogeny.md R920). -/
def get4fCoef (p : Nat) (a c : Gfp2) : CoefRegs := ⟨c, get4fK1 p a c, .zero, .zero, .zero⟩

/-- The product t1 that INV3 inverts (42_inverse.md R630). -/
def inv3Product (p : Nat) (z0 z1 z2 : Gfp2) : Gfp2 := mul2 p (mul2 p z0 z1) z2

/-- The outputs o0, o1, o2 of INV3 (42_inverse.md R630). -/
def inv3Formula (p : Nat) (z0 z1 z2 : Gfp2) : Gfp2 × Gfp2 × Gfp2 :=
  let t0 := mul2 p z0 z1
  let i := inv2 p (inv3Product p z0 z1 z2)
  let o2 := mul2 p i t0
  let i := mul2 p i z2
  let o1 := mul2 p i z0
  let o0 := mul2 p i z1
  (o0, o1, o2)

/-- The product t2 that INV4 inverts (42_inverse.md R631). -/
def inv4Product (p : Nat) (z0 z1 z2 z3 : Gfp2) : Gfp2 := mul2 p (mul2 p (mul2 p z0 z1) z2) z3

/-- The outputs o0, o1, o2, o3 of INV4 (42_inverse.md R631). -/
def inv4Formula (p : Nat) (z0 z1 z2 z3 : Gfp2) : Gfp2 × Gfp2 × Gfp2 × Gfp2 :=
  let t0 := mul2 p z0 z1
  let t1 := mul2 p t0 z2
  let i := inv2 p (inv4Product p z0 z1 z2 z3)
  let o3 := mul2 p i t1
  let i := mul2 p i z3
  let o2 := mul2 p i t0
  let i := mul2 p i z2
  let o1 := mul2 p i z0
  let o0 := mul2 p i z1
  (o0, o1, o2, o3)

end Sys2Proof.Machine
end

