-- ==== Sys2Proof/Machine/Curve.lean ====
section
/-! DEFINITION. The Montgomery curve commands (43_curve.md). -/

namespace Sys2Proof.Machine

/-- CSET (R700): "COEF[0..4] unchanged". -/
def execCset (a b : EReg) (s : State) : Host.Outcome State Fault Refusal :=
  command { sources := EReg.comps a ++ EReg.comps b }
    ((s.setCurve (curveOf s.mod (s.E a) (s.E b))).setIso .initial) s

/-- CGET (R701): E[d] ← CA and E[a] ← CC; "no E_NONCANON check". -/
def execCget (d a : EReg) (s : State) : Host.Outcome State Fault Refusal :=
  command { aliased := decide (d = a) } ((s.setE d s.curve.ca).setE a s.curve.cc) s

/-- XDBL (R710). -/
def execXdbl (d a : PReg) (s : State) : Host.Outcome State Fault Refusal :=
  command { sources := PReg.comps a } (s.setP d (xdblFormula s.mod s.curve.ca24p s.curve.cc24 (s.P a))) s

/-- XTPL (R711). -/
def execXtpl (d a : PReg) (s : State) : Host.Outcome State Fault Refusal :=
  command { sources := PReg.comps a } (s.setP d (xtplFormula s.mod s.curve.ca24p s.curve.ca24m (s.P a))) s

/-- XADD (R712). -/
def execXadd (d a b : PReg) (c : EReg) (s : State) : Host.Outcome State Fault Refusal :=
  command { sources := PReg.comps a ++ PReg.comps b ++ EReg.comps c }
    (s.setP d (xaddFormula s.mod (s.P a) (s.P b) (s.E c))) s

/-- XDBLADD (R713): "Both results come from the register values before the command". -/
def execXdbladd (d a : PReg) (b : EReg) (s : State) : Host.Outcome State Fault Refusal :=
  command { aliased := decide (d = a), sources := PReg.comps d ++ PReg.comps a ++ EReg.comps b }
    ((s.setP d (xdblFormula s.mod s.curve.ca24p s.curve.cc24 (s.P d))).setP a
      (xaddFormula s.mod (s.P d) (s.P a) (s.E b))) s

/-- PCSWAP (R720). -/
def execPcswap (a b : PReg) (s : State) : Host.Outcome State Fault Refusal :=
  let r := swapIf s.selBit (s.P a) (s.P b)
  command { usesSel := true, sources := PReg.comps a ++ PReg.comps b } ((s.setP a r.1).setP b r.2) s

/-- JINV (R730): reads only CA and CC; ZINV if norm(den) = 0. -/
def execJinv (d : EReg) (s : State) : Host.Outcome State Fault Refusal :=
  let den := jinvDen s.mod s.curve.ca s.curve.cc
  command {} ((s.setE d (mul2 s.mod (jinvNum s.mod s.curve.ca s.curve.cc) (inv2 s.mod den))).noteInverse
    (norm2 s.mod den)) s

/-- RECOVA (R740): ZINV if norm(dn) = 0. -/
def execRecova (d a b c : EReg) (s : State) : Host.Outcome State Fault Refusal :=
  command { sources := EReg.comps a ++ EReg.comps b ++ EReg.comps c }
    ((s.setE d (recovaFormula s.mod (s.E a) (s.E b) (s.E c))).noteInverse
      (norm2 s.mod (recovaDen s.mod (s.E a) (s.E b) (s.E c)))) s

end Sys2Proof.Machine
end

