-- ==== Sys2Proof/Machine/Gfp.lean ====
section
/-! DEFINITION. The GF(p) commands (40_gfp.md sections 2 and 3). -/

namespace Sys2Proof.Machine

/-- FPADD (R410). -/
def execFpadd (d a b : FReg) (s : State) : Host.Outcome State Fault Refusal :=
  command { sources := [a, b] } (s.setF d (addp s.mod (s.F a) (s.F b))) s

/-- FPSUB (R411). -/
def execFpsub (d a b : FReg) (s : State) : Host.Outcome State Fault Refusal :=
  command { sources := [a, b] } (s.setF d (subp s.mod (s.F a) (s.F b))) s

/-- FPMUL (R412). -/
def execFpmul (d a b : FReg) (s : State) : Host.Outcome State Fault Refusal :=
  command { sources := [a, b] } (s.setF d (mulp s.mod (s.F a) (s.F b))) s

/-- FPSQR (R413). -/
def execFpsqr (d a : FReg) (s : State) : Host.Outcome State Fault Refusal :=
  command { sources := [a] } (s.setF d (mulp s.mod (s.F a) (s.F a))) s

/-- FPNEG (R414). -/
def execFpneg (d a : FReg) (s : State) : Host.Outcome State Fault Refusal :=
  command { sources := [a] } (s.setF d (negp s.mod (s.F a))) s

/-- FPDIV2 (R415). -/
def execFpdiv2 (d a : FReg) (s : State) : Host.Outcome State Fault Refusal :=
  command { sources := [a] } (s.setF d (div2p s.mod (s.F a))) s

/-- FPMOV (R416): "source checked < p". -/
def execFpmov (d a : FReg) (s : State) : Host.Outcome State Fault Refusal :=
  command { sources := [a] } (s.setF d (s.F a)) s

/-- FPSETI (R417): "It reads no register, so it has no E_NONCANON check". -/
def execFpseti (d : FReg) (imm : Imm18) (s : State) : Host.Outcome State Fault Refusal :=
  command {} (s.setF d (kp s.mod imm.toNat)) s

/-- FPCSWAP (R450): both results from the values before the command; a = b leaves F[a] unchanged. -/
def execFpcswap (a b : FReg) (s : State) : Host.Outcome State Fault Refusal :=
  let r := swapIf s.selBit (s.F a) (s.F b)
  command { usesSel := true, sources := [a, b] } ((s.setF a r.1).setF b r.2) s

/-- FPCSEL (R451). -/
def execFpcsel (d a b : FReg) (s : State) : Host.Outcome State Fault Refusal :=
  command { usesSel := true, sources := [a, b] } (s.setF d (selectIf s.selBit (s.F a) (s.F b))) s

/-- FPTEST (R460): writes EQ, LT and ODD, and no register. -/
def execFptest (a b : FReg) (s : State) : Host.Outcome State Fault Refusal :=
  command { sources := [a, b] } (s.setFlags (s.flags.ofTest (s.F a) (s.F b))) s

end Sys2Proof.Machine
end

