-- ==== Sys2Proof/Machine/Gfp2.lean ====
section
/-! DEFINITION. The GF(p^2) commands (41_gfp2.md). -/

namespace Sys2Proof.Machine

/-- FP2ADD (R510). -/
def execFp2add (d a b : EReg) (s : State) : Host.Outcome State Fault Refusal :=
  command { sources := EReg.comps a ++ EReg.comps b } (s.setE d (add2 s.mod (s.E a) (s.E b))) s

/-- FP2SUB (R511). -/
def execFp2sub (d a b : EReg) (s : State) : Host.Outcome State Fault Refusal :=
  command { sources := EReg.comps a ++ EReg.comps b } (s.setE d (sub2 s.mod (s.E a) (s.E b))) s

/-- FP2MUL (R512). -/
def execFp2mul (d a b : EReg) (s : State) : Host.Outcome State Fault Refusal :=
  command { sources := EReg.comps a ++ EReg.comps b } (s.setE d (mul2 s.mod (s.E a) (s.E b))) s

/-- FP2SQR (R513). -/
def execFp2sqr (d a : EReg) (s : State) : Host.Outcome State Fault Refusal :=
  command { sources := EReg.comps a } (s.setE d (sqr2 s.mod (s.E a))) s

/-- FP2NEG (R514). -/
def execFp2neg (d a : EReg) (s : State) : Host.Outcome State Fault Refusal :=
  command { sources := EReg.comps a } (s.setE d (neg2 s.mod (s.E a))) s

/-- FP2DIV2 (R515). -/
def execFp2div2 (d a : EReg) (s : State) : Host.Outcome State Fault Refusal :=
  command { sources := EReg.comps a } (s.setE d (div2 s.mod (s.E a))) s

/-- FP2MOV (R516): "both components checked < p". -/
def execFp2mov (d a : EReg) (s : State) : Host.Outcome State Fault Refusal :=
  command { sources := EReg.comps a } (s.setE d (s.E a)) s

/-- FP2CSWAP (R550). -/
def execFp2cswap (a b : EReg) (s : State) : Host.Outcome State Fault Refusal :=
  let r := swapIf s.selBit (s.E a) (s.E b)
  command { usesSel := true, sources := EReg.comps a ++ EReg.comps b } ((s.setE a r.1).setE b r.2) s

/-- FP2CSEL (R551). -/
def execFp2csel (d a b : EReg) (s : State) : Host.Outcome State Fault Refusal :=
  command { usesSel := true, sources := EReg.comps a ++ EReg.comps b }
    (s.setE d (selectIf s.selBit (s.E a) (s.E b))) s

/-- FP2TEST (R560): EQ, and LT = ODD = 0; no register. -/
def execFp2test (a b : EReg) (s : State) : Host.Outcome State Fault Refusal :=
  command { sources := EReg.comps a ++ EReg.comps b } (s.setFlags (s.flags.ofTest2 (s.E a) (s.E b))) s

end Sys2Proof.Machine
end

