-- ==== Sys2Proof/Machine/Inverse.lean ====
section
/-! DEFINITION. The modular inverse unit (42_inverse.md). -/

namespace Sys2Proof.Machine

/-- FPINV (R620). -/
def execFpinv (d a : FReg) (s : State) : Host.Outcome State Fault Refusal :=
  command { sources := [a] } ((s.setF d (invp s.mod (s.F a))).noteInverse (s.F a)) s

/-- FP2INV (R621). -/
def execFp2inv (d a : EReg) (s : State) : Host.Outcome State Fault Refusal :=
  command { sources := EReg.comps a } ((s.setE d (inv2 s.mod (s.E a))).noteInverse (norm2 s.mod (s.E a))) s

/-- INV3 (R630), in place on E[d], E[d+1], E[d+2]; "d > 29 is E_ILLEGAL". -/
def execInv3 (d : EReg) (s : State) : Host.Outcome State Fault Refusal :=
  let d1 := EReg.plus d 1
  let d2 := EReg.plus d 2
  let o := inv3Formula s.mod (s.E d) (s.E d1) (s.E d2)
  command { illegal := decide (29 < d.val), sources := EReg.comps d ++ EReg.comps d1 ++ EReg.comps d2 }
    ((((s.setE d o.1).setE d1 o.2.1).setE d2 o.2.2).noteInverse
      (norm2 s.mod (inv3Product s.mod (s.E d) (s.E d1) (s.E d2)))) s

/-- INV4 (R631), in place on E[d..d+3]; "d > 28 is E_ILLEGAL". -/
def execInv4 (d : EReg) (s : State) : Host.Outcome State Fault Refusal :=
  let d1 := EReg.plus d 1
  let d2 := EReg.plus d 2
  let d3 := EReg.plus d 3
  let o := inv4Formula s.mod (s.E d) (s.E d1) (s.E d2) (s.E d3)
  command { illegal := decide (28 < d.val)
            sources := EReg.comps d ++ EReg.comps d1 ++ EReg.comps d2 ++ EReg.comps d3 }
    (((((s.setE d o.1).setE d1 o.2.1).setE d2 o.2.2.1).setE d3 o.2.2.2).noteInverse
      (norm2 s.mod (inv4Product s.mod (s.E d) (s.E d1) (s.E d2) (s.E d3)))) s

end Sys2Proof.Machine
end

