-- ==== Sys2Proof/Machine/Isogeny.lean ====
section
/-! DEFINITION. The isogeny-kernel evaluator (45_isogeny.md): a GET writes the curve, COEF and ISO together, an EVAL writes
one point register and ISO.ST (10_state.md R116). -/

namespace Sys2Proof.Machine

/-- GET3 (R900). -/
def execGet3 (a : PReg) (s : State) : Host.Outcome State Fault Refusal :=
  command { sources := PReg.comps a }
    (((s.setCurve (get3Curve s.mod (s.P a))).setCoef (get3Coef s.mod (s.P a))).setIso ⟨.computed, .deg3⟩) s

/-- EVAL3 (R905): needs ISO.TAG = DEG3. -/
def execEval3 (d a : PReg) (s : State) : Host.Outcome State Fault Refusal :=
  command { tags := some [.deg3], sources := PReg.comps a }
    ((s.setP d (eval3Formula s.mod s.coef (s.P a))).setIso ⟨.evaluated, s.iso.tag⟩) s

/-- GET4 (R910). -/
def execGet4 (a : PReg) (s : State) : Host.Outcome State Fault Refusal :=
  command { sources := PReg.comps a }
    (((s.setCurve (get4Curve s.mod (s.P a))).setCoef (get4Coef s.mod (s.P a))).setIso ⟨.computed, .deg4⟩) s

/-- EVAL4 (R915): needs ISO.TAG = DEG4 or DEG4F, and the tag selects the formula. -/
def execEval4 (d a : PReg) (s : State) : Host.Outcome State Fault Refusal :=
  command { tags := some [.deg4, .deg4f], sources := PReg.comps a }
    ((s.setP d (if s.iso.tag = .deg4 then eval4Formula s.mod s.coef (s.P a)
                else eval4fFormula s.mod s.coef (s.P a))).setIso ⟨.evaluated, s.iso.tag⟩) s

/-- GET4F (R920): reads CA and CC, "no E_NONCANON check". -/
def execGet4f (s : State) : Host.Outcome State Fault Refusal :=
  command {}
    (((s.setCurve (get4fCurve s.mod s.curve.ca s.curve.cc)).setCoef
      (get4fCoef s.mod s.curve.ca s.curve.cc)).setIso ⟨.computed, .deg4f⟩) s

end Sys2Proof.Machine
end

