-- ==== Sys2Proof/Machine/Ladder.lean ====
section
/-! DEFINITION. The three-point ladder (44_ladder.md). -/

namespace Sys2Proof.Machine

/-- LADDER (R800): P[d] ← LADDER3(E[a], E[b], E[c], SCALAR, NBITS); E_PARAM when NBITS > W; SCALAR is not checked. -/
def execLadder (d : PReg) (a b c : EReg) (s : State) : Host.Outcome State Fault Refusal :=
  command { usesNbits := true, sources := EReg.comps a ++ EReg.comps b ++ EReg.comps c }
    (s.setP d (ladder3 s.mod ⟨s.curve.ca24p, s.curve.cc24, s.E a, s.E b, s.E c⟩ s.scalar s.nbits.toNat)) s

end Sys2Proof.Machine
end

