-- ==== Sys2Proof/Machine/Dispatch.lean ====
section
/-! DEFINITION. One arm per command: the direct call of its meaning. -/

namespace Sys2Proof.Machine

def exec (i : Instr) (s : State) : Host.Outcome State Fault Refusal :=
  match i with
  -- 40_gfp.md, control
  | .nop => Sys2Proof.Machine.execNop s
  | .config => Sys2Proof.Machine.execConfig s
  -- 40_gfp.md, GF(p)
  | .fpadd d a b => Sys2Proof.Machine.execFpadd d a b s
  | .fpsub d a b => Sys2Proof.Machine.execFpsub d a b s
  | .fpmul d a b => Sys2Proof.Machine.execFpmul d a b s
  | .fpsqr d a => Sys2Proof.Machine.execFpsqr d a s
  | .fpneg d a => Sys2Proof.Machine.execFpneg d a s
  | .fpdiv2 d a => Sys2Proof.Machine.execFpdiv2 d a s
  | .fpmov d a => Sys2Proof.Machine.execFpmov d a s
  | .fpseti d imm => Sys2Proof.Machine.execFpseti d imm s
  | .fpcswap a b => Sys2Proof.Machine.execFpcswap a b s
  | .fpcsel d a b => Sys2Proof.Machine.execFpcsel d a b s
  | .fptest a b => Sys2Proof.Machine.execFptest a b s
  -- 41_gfp2.md
  | .fp2add d a b => Sys2Proof.Machine.execFp2add d a b s
  | .fp2sub d a b => Sys2Proof.Machine.execFp2sub d a b s
  | .fp2mul d a b => Sys2Proof.Machine.execFp2mul d a b s
  | .fp2sqr d a => Sys2Proof.Machine.execFp2sqr d a s
  | .fp2neg d a => Sys2Proof.Machine.execFp2neg d a s
  | .fp2div2 d a => Sys2Proof.Machine.execFp2div2 d a s
  | .fp2mov d a => Sys2Proof.Machine.execFp2mov d a s
  | .fp2cswap a b => Sys2Proof.Machine.execFp2cswap a b s
  | .fp2csel d a b => Sys2Proof.Machine.execFp2csel d a b s
  | .fp2test a b => Sys2Proof.Machine.execFp2test a b s
  -- 42_inverse.md
  | .fpinv d a => Sys2Proof.Machine.execFpinv d a s
  | .fp2inv d a => Sys2Proof.Machine.execFp2inv d a s
  | .inv3 d => Sys2Proof.Machine.execInv3 d s
  | .inv4 d => Sys2Proof.Machine.execInv4 d s
  -- 43_curve.md
  | .cset a b => Sys2Proof.Machine.execCset a b s
  | .cget d a => Sys2Proof.Machine.execCget d a s
  | .xdbl d a => Sys2Proof.Machine.execXdbl d a s
  | .xtpl d a => Sys2Proof.Machine.execXtpl d a s
  | .xadd d a b c => Sys2Proof.Machine.execXadd d a b c s
  | .xdbladd d a b => Sys2Proof.Machine.execXdbladd d a b s
  | .pcswap a b => Sys2Proof.Machine.execPcswap a b s
  | .jinv d => Sys2Proof.Machine.execJinv d s
  | .recova d a b c => Sys2Proof.Machine.execRecova d a b c s
  -- 44_ladder.md
  | .ladder d a b c => Sys2Proof.Machine.execLadder d a b c s
  -- 45_isogeny.md
  | .get3 a => Sys2Proof.Machine.execGet3 a s
  | .eval3 d a => Sys2Proof.Machine.execEval3 d a s
  | .get4 a => Sys2Proof.Machine.execGet4 a s
  | .eval4 d a => Sys2Proof.Machine.execEval4 d a s
  | .get4f => Sys2Proof.Machine.execGet4f s

end Sys2Proof.Machine
end

