-- ==== Sys2Proof/Machine/Accept.lean ====
section
/-! DEFINITION. The life of a command word: its execution and completion (30_encoding.md R303, 60_exceptions.md R1002,
R1010), its latency (70_reset_and_hazards.md R1120), and its acceptance (10_state.md R134). -/

namespace Sys2Proof.Machine

/-- ERRCODE's number of an error code (R1001). -/
def ErrCode.code : ErrCode → BitVec 8
  | .eNone => 0x00#8 | .eIllegal => 0x01#8 | .eNocfg => 0x02#8 | .eBadmod => 0x03#8 | .eNoncanon => 0x04#8
  | .eAlias => 0x05#8 | .eSel => 0x06#8 | .eIsostate => 0x07#8 | .eParam => 0x08#8

/-- `execute(v)` (R1002) up to its completion: an illegal word "completes like any other error" (R303), a legal one as its
command's meaning says. -/
def runWord (w : Word) (s : State) : Host.Outcome State Fault Refusal :=
  match decodeWord w with
  | some i => exec i s
  | none => .next (s.finish .eIllegal)

/-- The error code with which the word `w` completes from the state `s`. While it is in flight nothing it reads can change
(R213), so the code is known at acceptance. -/
def codeOf (w : Word) (s : State) : ErrCode :=
  match runWord w s with
  | .next t => t.errcode
  | .fault r => nomatch r
  | .refused _ => .eIllegal

/-- The latency counter at acceptance: LAT(op, W, PBITS, NBITS), NBITS "for LADDER only", or LAT_ERR(op, code) (R1120,
R1010). -/
def latencyLeft (w : Word) (s : State) : Nat :=
  match codeOf w s with
  | .eNone =>
    Config.latSuccess (opField w) s.slot.width s.pbits (if opField w = 0x50#8 then s.nbits.toNat else 0)
  | code => Config.latError (opField w) code.code

/-- "CORE accepts v as a command. In one step it sets BUSY ← 1, DONE ← 0 and LASTCMD ← v" (R134). -/
def State.accept (s : State) (w : Word) (left : Nat) : State :=
  { s with inflight := some ⟨w, left⟩, done := false, lastcmd := w }

/-- A CMD write (R134): accepted while idle; while busy discarded, with OVR ← 1. -/
def State.writeCmd (s : State) (w : Word) : State :=
  if s.busy then { s with ovr := true } else s.accept w (latencyLeft w s)

end Sys2Proof.Machine
end

