-- ==== Sys2Proof/Machine/Reset.lean ====
section
/-! DEFINITION. The two resets (10_state.md R150, 70_reset_and_hazards.md R1100 to R1103). -/

namespace Sys2Proof.Machine

/-- The assertion of `rst` (R1100): the state of R150 column H, so a command in flight is abandoned; the instance, what
the host still does and CORE's last answer are no part of CORE's state. The contents of F, MOD and SCALAR are a free value
for each assertion (R1103, log entry 3). -/
def State.hardReset (s : State) : State :=
  { State.powerUp s.slot (Config.powerOn s.resets) with
    inReset := true, host := s.host, resp := s.resp, resets := s.resets + 1 }

/-- The release of `rst`: CORE answers bus accesses again (R1100). -/
def State.releaseReset (s : State) : State := { s with inReset := false }

/-- The soft reset, column S of R150: "F, MOD and SCALAR keep their contents", and a command in flight "is aborted with no
effects" (R1101). -/
def State.softReset (s : State) : State :=
  { State.powerUp s.slot (fun _ => 0) with
    f := s.f, mod := s.mod, scalar := s.scalar, inReset := s.inReset, host := s.host, resp := s.resp, resets := s.resets }

end Sys2Proof.Machine
end

