-- ==== Sys2Proof/Machine/Csr.lean ====
section
/-! DEFINITION. The control and status registers as the host reads and writes them (10_state.md R130 to R142). -/

namespace Sys2Proof.Machine

/-- ISO.ST's number (R115). -/
def IsoSt.code : IsoSt → Nat
  | .uncomputed => 0 | .computed => 1 | .evaluated => 2

/-- ISO.TAG's number (R115). -/
def IsoTag.code : IsoTag → Nat
  | .untagged => 0 | .deg3 => 1 | .deg4 => 2 | .deg4f => 3

/-- The number whose bits n, n-1, ..., 0 are given, the least significant first. -/
def bitsWord : List Bool → Nat
  | [] => 0
  | b :: bs => b.toNat + 2 * bitsWord bs

/-- PARAM: SLOT_BYTES in 15:0, NE = 32 in 23:16, NCOEF = 5 in 31:24 (R131). -/
def paramWord (slot : SlotBytes) : Word := 5#8 ++ 32#8 ++ BitVec.ofNat 16 slot.bytes
/-- CTRL: bit 0 is IRQ_EN, SRST reads 0 (R132). -/
def State.ctrlWord (s : State) : Word := BitVec.ofNat 32 (bitsWord [s.irqEn])
/-- STATUS: BUSY, DONE, ERR, CFG_OK, OVR from bit 0 (R133). -/
def State.statusWord (s : State) : Word := BitVec.ofNat 32 (bitsWord [s.busy, s.done, s.err, s.cfgOk, s.ovr])
/-- ERRCODE in bits 7:0 (R135). -/
def State.errcodeWord (s : State) : Word := s.errcode.code.zeroExtend 32
/-- FLAGS: EQ, LT, ODD, ZINV from bit 0 (R137). -/
def State.flagsWord (s : State) : Word := BitVec.ofNat 32 (bitsWord [s.flags.eq, s.flags.lt, s.flags.odd, s.flags.zinv])
/-- ISO: ST in 1:0, TAG in 3:2 (R140). -/
def State.isoWord (s : State) : Word := BitVec.ofNat 32 (s.iso.st.code + 4 * s.iso.tag.code)

/-- What a CSR reads as (R130 to R142); CMD reads 0 (R134), and so does a reserved offset (R142). -/
def State.readCsr (s : State) (off : Nat) : Word :=
  match off with
  | 0x000 => 0x53494443#32
  | 0x004 => 0x00000001#32
  | 0x008 => paramWord s.slot
  | 0x00C => s.ctrlWord
  | 0x010 => s.statusWord
  | 0x018 => s.errcodeWord
  | 0x01C => s.lastcmd
  | 0x020 => s.flagsWord
  | 0x024 => s.sel
  | 0x028 => s.nbits.zeroExtend 32
  | 0x02C => s.isoWord
  | 0x030 => BitVec.ofNat 32 (s.pbits % 2 ^ 16)
  | _ => 0#32

/-- A CTRL write: SRST = 1 is the soft reset, and "the other bits of the same write are ignored" (R132, R1101). -/
def State.writeCtrl (s : State) (v : Word) : State :=
  if v.getLsbD 1 then s.softReset else { s with irqEn := v.getLsbD 0 }

/-- A STATUS write: writing 1 clears DONE, ERR, OVR (R133). -/
def State.writeStatus (s : State) (v : Word) : State :=
  { s with done := s.done && !v.getLsbD 1, err := s.err && !v.getLsbD 2, ovr := s.ovr && !v.getLsbD 4 }

/-- A FLAGS write: writing 1 clears ZINV (R137). -/
def State.writeFlags (s : State) (v : Word) : State :=
  { s with flags := { s.flags with zinv := s.flags.zinv && !v.getLsbD 3 } }

/-- A write to a CSR that the bus lets through; a read-only or reserved CSR ignores it (R130, R142). -/
def State.writeCsr (s : State) (off : Nat) (v : Word) : State :=
  match off with
  | 0x00C => s.writeCtrl v
  | 0x010 => s.writeStatus v
  | 0x014 => s.writeCmd v
  | 0x020 => s.writeFlags v
  | 0x024 => { s with sel := v }
  | 0x028 => { s with nbits := v.truncate 16 }
  | _ => s

/-- FLAGS, SEL and NBITS: a write to them while busy gets a bus error (R137 to R139). -/
def idleOnlyCsr (off : Nat) : Bool := off == 0x020 || (off == 0x024 || off == 0x028)

end Sys2Proof.Machine
end

