-- ==== Sys2Proof/Machine/Bus.lean ====
section
/-! DEFINITION. The host bus: the address map (20_memory.md R220), the slots' byte order (R205, R207), and the reads and
writes (R210 to R213). CORE has no memory: every address is a register's or reads 0 (R200, log entry 12). -/

namespace Sys2Proof.Machine

/-- What an aligned address names (R220). `k` is the slot's word, 0 the most significant (R207); a curve or COEF slot has
the number 2·register + component. -/
inductive Target where
  | csr (off : Nat)
  | modWord (k : Nat)
  | scalarWord (k : Nat)
  | curveWord (j : Fin 10) (k : Nat)
  | coefWord (j : Fin 10) (k : Nat)
  | fWord (i : FReg) (k : Nat)
  | reserved
deriving DecidableEq, Repr

/-- The address map of R220 for S = SLOT_BYTES. -/
def targetOf (S a : Nat) : Target :=
  if a < 0x100 then .csr a
  else if a < 0x1000 then .reserved
  else if a < 0x2000 then (if a - 0x1000 < S then .modWord ((a - 0x1000) / 4) else .reserved)
  else if a < 0x3000 then (if a - 0x2000 < S then .scalarWord ((a - 0x2000) / 4) else .reserved)
  else if a < 0x4000 then
    (if h : (a - 0x3000) / S < 10 then .curveWord ⟨(a - 0x3000) / S, h⟩ ((a - 0x3000) % S / 4) else .reserved)
  else if a < 0x5000 then
    (if h : (a - 0x4000) / S < 10 then .coefWord ⟨(a - 0x4000) / S, h⟩ ((a - 0x4000) % S / 4) else .reserved)
  else if a < 0x8000 then .reserved
  else (if h : (a - 0x8000) / S < 64 then .fWord ⟨(a - 0x8000) / S, h⟩ ((a - 0x8000) % S / 4) else .reserved)

/-- A slot of the MOD, SCALAR, curve, COEF or E window: "Only the slot addresses count; the reserved tail of each window
does not" (R213). -/
def Target.isSlot : Target → Bool
  | .modWord _ | .scalarWord _ | .curveWord _ _ | .coefWord _ _ | .fWord _ _ => true
  | .csr _ | .reserved => false

/-- Component c of curve register k, for slot j = 2k + c (R220): 0 = CA, 1 = CC, 2 = CA24P, 3 = CA24M, 4 = CC24. -/
def CurveRegs.slotValue (c : CurveRegs) (j : Nat) : Nat :=
  let r := match j / 2 with
    | 0 => c.ca | 1 => c.cc | 2 => c.ca24p | 3 => c.ca24m | _ => c.cc24
  if j % 2 = 0 then r.c0 else r.c1

/-- Component c of COEF[k], for slot j = 2k + c (R220). -/
def CoefRegs.slotValue (c : CoefRegs) (j : Nat) : Nat :=
  let r := match j / 2 with
    | 0 => c.k0 | 1 => c.k1 | 2 => c.k2 | 3 => c.k3 | _ => c.k4
  if j % 2 = 0 then r.c0 else r.c1

/-- The word at `s + 4k` of a slot "carries v[W-1-32k : W-32-32k]" (R207). -/
def slotWord (w v k : Nat) : Word := BitVec.ofNat 32 (v / 2 ^ (w - 32 - 32 * k))

/-- A slot-word write "replaces the 32 bits of rule R207 in the register, and the other bits of the register are
unchanged" (R211). -/
def slotPut (w v k : Nat) (d : Word) : Nat :=
  let sh := w - 32 - 32 * k
  v / 2 ^ (sh + 32) * 2 ^ (sh + 32) + d.toNat * 2 ^ sh + v % 2 ^ sh

/-- "the 32 bits the register map gives" (R210); a reserved address reads 0. -/
def State.peek (s : State) : Target → Word
  | .csr off => s.readCsr off
  | .modWord k => slotWord s.slot.width s.mod k
  | .scalarWord k => slotWord s.slot.width s.scalar k
  | .curveWord j k => slotWord s.slot.width (s.curve.slotValue j.val) k
  | .coefWord j k => slotWord s.slot.width (s.coef.slotValue j.val) k
  | .fWord i k => slotWord s.slot.width (s.F i) k
  | .reserved => 0#32

/-- The effect of a legal write (R211): a MOD write also clears CFG_OK (R104), and a write to a curve or COEF slot or to a
reserved address is ignored. -/
def State.poke (s : State) (v : Word) : Target → State
  | .csr off => s.writeCsr off v
  | .modWord k => { s with mod := slotPut s.slot.width s.mod k v, cfgOk := false }
  | .scalarWord k => { s with scalar := slotPut s.slot.width s.scalar k v }
  | .fWord i k => s.setF i (slotPut s.slot.width (s.F i) k v)
  | .curveWord _ _ | .coefWord _ _ | .reserved => s

/-- "Only accesses with addr mod 4 = 0 and all four byte lanes enabled are legal" (R201). -/
def legalAccess (addr : HostAddr) (kind : AccessKind) (lanes : BitVec 4) : Bool :=
  decide (addr.toNat % 4 = 0) && (kind == .word && lanes == 0xF#4)

/-- What the address names in the instance that `s` is. -/
def State.target (s : State) (addr : HostAddr) : Target := targetOf s.slot.bytes addr.toNat

/-- The byte at any address of the space: byte a of a word is bits 31:24, byte a+3 bits 7:0 (R207). -/
def State.readByte (s : State) (addr : HostAddr) : BitVec 8 :=
  (s.peek (s.target (addr - BitVec.ofNat 16 (addr.toNat % 4)))).extractLsb' (24 - 8 * (addr.toNat % 4)) 8

/-- The bus error that the busy rule gives a read (R213). -/
def busyBlocksRead (s : State) (t : Target) : Bool := s.busy && t.isSlot

/-- The bus error that the busy rule gives a write (R213). -/
def busyBlocksWrite (s : State) (t : Target) : Bool :=
  s.busy && (match t with | .csr off => idleOnlyCsr off | t => t.isSlot)

/-- `MemRead` (R210): a bus error while `rst` is asserted (R1100), for an illegal access (R201) and for a slot while busy
(R213); otherwise the register map's word. -/
def State.memRead (s : State) (addr : HostAddr) (kind : AccessKind) : BusResp :=
  if s.inReset || !legalAccess addr kind 0xF#4 then .error
  else if busyBlocksRead s (s.target addr) then .error
  else .data (s.peek (s.target addr))

/-- CORE's answer to a write (R211). -/
def State.writeResp (s : State) (addr : HostAddr) (kind : AccessKind) (lanes : BitVec 4) : BusResp :=
  if s.inReset || !legalAccess addr kind lanes then .error
  else if busyBlocksWrite s (s.target addr) then .error
  else .written

/-- `MemWrite`'s effect (R211): "A write that gets it [a bus error] changes no state" (R212). -/
def State.memWrite (s : State) (addr : HostAddr) (kind : AccessKind) (lanes : BitVec 4) (v : Word) : State :=
  match s.writeResp addr kind lanes with
  | .written => s.poke v (s.target addr)
  | .data _ | .error => s

end Sys2Proof.Machine
end

