-- ==== Sys2Proof/Machine/Events.lean ====
section
/-! DEFINITION. One clock cycle of the host's side: at most one bus transaction or reset edge, "one at a time, in the order
they arrive" (20_memory.md R240), and when a command in flight completes (60_exceptions.md R1010, R1011). -/

namespace Sys2Proof.Machine

/-- CORE's answer to the last transaction. -/
def State.answer (s : State) (r : BusResp) : State := { s with resp := some r }

/-- The effect of what the host does in one cycle. -/
def serveEvent (e : HostEvent) (s : State) : State :=
  match e with
  | .read addr kind => s.answer (s.memRead addr kind)
  | .write addr kind lanes v => (s.memWrite addr kind lanes v).answer (s.writeResp addr kind lanes)
  | .idle => s
  | .wait => s
  | .rstAssert => s.hardReset
  | .rstRelease => s.releaseReset

/-- One cycle in which no command completes: the host's next event is served; with none left CORE is idle, "with all state
held" (R1045). -/
def serveCycle (s : State) : State :=
  match s.host with
  | [] => s
  | e :: rest => serveEvent e { s with host := rest }

/-- The latency counter after one more cycle in flight (R125). -/
def State.tick (s : State) (c : InFlight) : State := { s with inflight := some { c with left := c.left - 1 } }

/-- Whether the command in flight completes in this step: its latency has passed, or the host makes no transaction until it
has (log entry 8). -/
def completesNow (c : InFlight) (host : List HostEvent) : Bool :=
  match host with
  | .wait :: _ => true
  | _ => c.left == 0

end Sys2Proof.Machine
end

