-- ==== Sys2Proof/Machine/Step.lean ====
section
/-! DEFINITION. One step of the machine: a completion, which "takes effect first" (60_exceptions.md R1011), or one clock
cycle of the host's side. -/

namespace Sys2Proof.Machine

/-- With a command in flight whose latency has passed, the step runs it to its completion; otherwise the step is one cycle
of the host's side, which a command in flight lets pass. -/
def step (s : State) : Host.Outcome State Fault Refusal :=
  match s.inflight with
  | none => .next (serveCycle s)
  | some c => if completesNow c s.host then runWord c.word s else .next (serveCycle (s.tick c))

/-- `s` with the command word `w` accepted and its latency passed, so that the very next step runs it: CORE has no program
counter (R100), and a command is the data of a CMD write (R243), so this stands for the host's CMD write (R134) and the
cycles up to the completion (log entry 7). -/
def State.withFetchWord (s : State) (nbits w : Nat) : State :=
  { s.accept (BitVec.ofNat 32 (w % 2 ^ nbits)) 0 with inReset := false }

end Sys2Proof.Machine
end

