-- ==== Sys2Proof/Safety.lean ====
section
/-! DEFINITION. What the claims mean by a sound state: the invariants the spec states about the whole machine. -/

namespace Sys2Proof.Safety
open Sys2Proof.Machine

/-- Both components lie below `n`. -/
def Below (n : Nat) (x : Gfp2) : Prop := x.c0 < n ∧ x.c1 < n

/-- Every curve register lies below `n` in both components. -/
def CurveBelow (n : Nat) (c : CurveRegs) : Prop :=
  Below n c.ca ∧ Below n c.cc ∧ Below n c.ca24p ∧ Below n c.ca24m ∧ Below n c.cc24

/-- Every COEF register lies below `n` in both components. -/
def CoefBelow (n : Nat) (c : CoefRegs) : Prop :=
  Below n c.k0 ∧ Below n c.k1 ∧ Below n c.k2 ∧ Below n c.k3 ∧ Below n c.k4

/-- Every register holds a value of its width: F, MOD and SCALAR W bits (R101, R104, R106), the curve and COEF registers a
slot each (R205), PBITS 16 bits (R141). -/
structure Widths (s : State) : Prop where
  fFits : ∀ r : FReg, s.F r < 2 ^ s.slot.width
  modFits : s.mod < 2 ^ s.slot.width
  scalarFits : s.scalar < 2 ^ s.slot.width
  curveFits : CurveBelow (2 ^ s.slot.width) s.curve
  coefFits : CoefBelow (2 ^ s.slot.width) s.coef
  pbitsFits : s.pbits < 2 ^ 16

/-- The whole-machine invariant: the widths; while CFG_OK = 1, MOD holds an accepted modulus, PBITS its bit length (R104,
R105) and the curve and COEF registers are canonical (R702); "ST = UNCOMPUTED holds exactly when TAG = NONE" (R115); and
no command is in flight while `rst` is asserted (R1100). -/
structure Sound (s : State) : Prop where
  widths : Widths s
  modAccepted : s.cfgOk = true → acceptMod s.slot.width s.mod = true
  pbitsOfMod : s.cfgOk = true → s.pbits = bitlength s.mod
  curveCanonical : s.cfgOk = true → CurveBelow s.mod s.curve
  coefCanonical : s.cfgOk = true → CoefBelow s.mod s.coef
  isoTagged : s.iso.st = .uncomputed ↔ s.iso.tag = .untagged
  resetIdle : s.inReset = true → s.inflight = none

/-- The curve consistency of R111, without division: CA24M = CA24P - CC24, and (CA : CC) and (CA24P, CA24M, CC24) belong
to one affine coefficient, CA·CC24 = 2(CA24P + CA24M)·CC, in GF(p^2). -/
def CurveConsistent (p : Nat) (c : CurveRegs) : Prop :=
  c.ca24m = sub2 p c.ca24p c.cc24 ∧
  mul2 p c.ca c.cc24 = mul2 p (mul2 p (k2 p 2) (add2 p c.ca24p c.ca24m)) c.cc

end Sys2Proof.Safety
end

