-- ==== Sys2Proof/Certificates/Slice0/Obligations.lean ====
section
/-! DEFINITION. The statements for the provers. The helpers in Sys2Proof.Claims are written from the spec's rules, not from
the model's meanings: the record of a completion (R1010), the tables of R1004, and the exact arithmetic of the Gaussian
integers, of which GF(p)[i]/(i^2+1) is the reduction modulo p (R33). -/

namespace Sys2Proof.Claims
open Sys2Proof.Machine

/-- A completion without error (R1010): ERRCODE ← E_NONE, DONE ← 1, BUSY ← 0. -/
def completed (s : State) : State := { s with errcode := .eNone, done := true, inflight := none }

/-- A completion with error (R1010): ERRCODE ← code, ERR ← 1, DONE ← 1, BUSY ← 0, and nothing else (R1005). -/
def failed (s : State) (code : ErrCode) : State :=
  { s with errcode := code, err := true, done := true, inflight := none }

/-- E_NOCFG: what every command but NOP and CONFIG answers while CFG_OK = 0 (R105). -/
def NeedsConfig (i : Instr) (s : State) : Prop := s.cfgOk = false → exec i s = .next (failed s .eNocfg)

/-- E_NONCANON: what a command that reads the components `rs` answers when one of them is ≥ p and its earlier checks,
`passed`, hold (R1002). -/
def NeedsCanonical (i : Instr) (rs : List FReg) (passed : Prop) (s : State) : Prop :=
  s.cfgOk = true → passed → (∃ r ∈ rs, s.mod ≤ s.F r) → exec i s = .next (failed s .eNoncanon)

/-- A check of a configured CORE that `bad` fails, with its code. -/
def Raises (i : Instr) (bad : Prop) (code : ErrCode) (s : State) : Prop :=
  s.cfgOk = true → bad → exec i s = .next (failed s code)

/-- Every component in `rs` is canonical (R107). -/
def Canonical (s : State) (rs : List FReg) : Prop := ∀ r ∈ rs, s.F r < s.mod

/-- The legal selectors (R121). -/
def SelLegal (s : State) : Prop := s.sel = 0#32 ∨ s.sel = 1#32

/-! Exact arithmetic: a GF(p^2) value as a Gaussian integer, and its reduction modulo p. -/

/-- x0 + x1·i (R33). -/
def gauss (x : Gfp2) : GaussianInt := ⟨x.c0, x.c1⟩
/-- The canonical GF(p^2) value of a Gaussian integer. -/
def reduce (p : Nat) (g : GaussianInt) : Gfp2 := ⟨(g.re % (p : Int)).toNat, (g.im % (p : Int)).toNat⟩
/-- x0 - x1·i (R610). -/
def conj (x : Gfp2) : GaussianInt := ⟨x.c0, -x.c1⟩
/-- The norm x0^2 + x1^2 modulo p (R610). -/
def normOf (p : Nat) (x : Gfp2) : Nat := (x.c0 ^ 2 + x.c1 ^ 2) % p
/-- The conjugate over the norm, the norm's inverse being its power p - 2 (R600, R610). -/
def inverseOf (p : Nat) (x : Gfp2) : Gfp2 := reduce p (conj x * (normOf p x : GaussianInt) ^ (p - 2))

/-- (X2 : Z2) = (C24 (X-Z)^2 (X+Z)^2 : [C24 (X-Z)^2 + A24P·4XZ]·4XZ) (R710). -/
def double (p : Nat) (a24p c24 : Gfp2) (s : Point) : Point :=
  let X := gauss s.x
  let Z := gauss s.z
  ⟨reduce p (gauss c24 * (X - Z) ^ 2 * (X + Z) ^ 2),
   reduce p ((gauss c24 * (X - Z) ^ 2 + gauss a24p * (4 * X * Z)) * (4 * X * Z))⟩

/-- R712 multiplied out: (4(Xa·Xb - Za·Zb)^2 : 4·xd·(Za·Xb - Xa·Zb)^2). -/
def diffAdd (p : Nat) (a b : Point) (xd : Gfp2) : Point :=
  let Xa := gauss a.x
  let Za := gauss a.z
  let Xb := gauss b.x
  let Zb := gauss b.z
  ⟨reduce p (4 * (Xa * Xb - Za * Zb) ^ 2), reduce p (4 * gauss xd * (Za * Xb - Xa * Zb) ^ 2)⟩

/-- R711 multiplied out, with D = A24M (X-Z)^4 - A24P (X+Z)^4 and N = 2(X^2-Z^2)(A24P (X+Z)^2 - A24M (X-Z)^2):
(2X (D+N)^2 : 2Z (D-N)^2). -/
def triple (p : Nat) (a24p a24m : Gfp2) (s : Point) : Point :=
  let X := gauss s.x
  let Z := gauss s.z
  let D := gauss a24m * (X - Z) ^ 4 - gauss a24p * (X + Z) ^ 4
  let N := 2 * (X ^ 2 - Z ^ 2) * (gauss a24p * (X + Z) ^ 2 - gauss a24m * (X - Z) ^ 2)
  ⟨reduce p (2 * X * (D + N) ^ 2), reduce p (2 * Z * (D - N) ^ 2)⟩

/-- One iteration of R801 on a bit of the scalar, on the triple (R0, R1, R2). -/
def ladderIteration (p : Nat) (a24p c24 xP xQ xPQ : Gfp2) (r : Point × Point × Point) (bit : Bool) :
    Point × Point × Point :=
  match bit with
  | false => (double p a24p c24 r.1, diffAdd p r.1 r.2.1 xQ, diffAdd p r.2.2 r.1 xP)
  | true => (diffAdd p r.1 r.2.1 xQ, double p a24p c24 r.2.1, diffAdd p r.2.2 r.2.1 xPQ)

/-- LADDER3 of R801: the bits n-1 down to 0 of m, from (1:0), (xQ:1), (xP:1); the result is R2. -/
def ladderResult (p : Nat) (a24p c24 xP xQ xPQ : Gfp2) (m n : Nat) : Point :=
  (((List.range n).reverse.map m.testBit).foldl (ladderIteration p a24p c24 xP xQ xPQ)
    (⟨reduce p 1, reduce p 0⟩, ⟨xQ, reduce p 1⟩, ⟨xP, reduce p 1⟩)).2.2

/-- The branch-free iteration of R802: swap, T ← XADD(R2, R0, dx), XDBLADD of R0 and R1, swap. -/
def swapIteration (p : Nat) (c : LadderInput) (bit : Bool) (r : LadderRegs) : LadderRegs :=
  let w := swapIf bit r.r0 r.r1
  let dx := selectIf bit c.xP c.xPQ
  let t := xaddFormula p r.r2 w.1 dx
  let v := swapIf bit (xdblFormula p c.ca24p c.cc24 w.1) (xaddFormula p w.1 w.2 c.xQ)
  ⟨v.1, v.2, t⟩

/-- The loop of R802 over the bits n-1 down to 0 of m. -/
def swapLoop (p : Nat) (c : LadderInput) (m : Nat) : Nat → LadderRegs → LadderRegs
  | 0, r => r
  | n + 1, r => swapLoop p c m n (swapIteration p c (m.testBit n) r)

/-! The tables of R1004: the checks of each command. -/

/-- The GF(p) components a command reads from F, E or P: the NONCANON column of R1004. -/
def sources : Instr → List FReg
  | .nop | .config | .fpseti _ _ | .cget _ _ | .jinv _ | .get4f => []
  | .fpadd _ a b | .fpsub _ a b | .fpmul _ a b | .fptest a b | .fpcsel _ a b | .fpcswap a b => [a, b]
  | .fpsqr _ a | .fpneg _ a | .fpdiv2 _ a | .fpmov _ a | .fpinv _ a => [a]
  | .fp2add _ a b | .fp2sub _ a b | .fp2mul _ a b | .fp2test a b | .fp2csel _ a b | .fp2cswap a b | .cset a b =>
    EReg.comps a ++ EReg.comps b
  | .fp2sqr _ a | .fp2neg _ a | .fp2div2 _ a | .fp2mov _ a | .fp2inv _ a => EReg.comps a
  | .inv3 d => EReg.comps d ++ EReg.comps (EReg.plus d 1) ++ EReg.comps (EReg.plus d 2)
  | .inv4 d => EReg.comps d ++ EReg.comps (EReg.plus d 1) ++ EReg.comps (EReg.plus d 2) ++ EReg.comps (EReg.plus d 3)
  | .xdbl _ a | .xtpl _ a | .get3 a | .get4 a | .eval3 _ a | .eval4 _ a => PReg.comps a
  | .xadd _ a b c => PReg.comps a ++ PReg.comps b ++ EReg.comps c
  | .xdbladd d a b => PReg.comps d ++ PReg.comps a ++ EReg.comps b
  | .pcswap a b => PReg.comps a ++ PReg.comps b
  | .recova _ a b c | .ladder _ a b c => EReg.comps a ++ EReg.comps b ++ EReg.comps c

/-- E_NOCFG applies "to every command but NOP and CONFIG" (R1004). -/
def usesField : Instr → Bool
  | .nop | .config => false
  | _ => true

/-- E_ALIAS: CGET and XDBLADD with d = a (R1003). -/
def aliases : Instr → Bool
  | .cget d a => decide (d = a)
  | .xdbladd d a _ => decide (d = a)
  | _ => false

/-- E_PARAM applies to LADDER. -/
def usesCount : Instr → Bool
  | .ladder _ _ _ _ => true
  | _ => false

/-- E_SEL applies to the conditional swaps and selects. -/
def usesSelector : Instr → Bool
  | .fpcswap _ _ | .fpcsel _ _ _ | .fp2cswap _ _ | .fp2csel _ _ _ | .pcswap _ _ => true
  | _ => false

/-- E_ISOSTATE: EVAL3 with TAG ≠ DEG3, EVAL4 with TAG ∉ {DEG4, DEG4F}. -/
def tagFails (s : State) : Instr → Prop
  | .eval3 _ _ => s.iso.tag ≠ .deg3
  | .eval4 _ _ => s.iso.tag ≠ .deg4 ∧ s.iso.tag ≠ .deg4f
  | _ => False

/-- The error code of a command in the priority order of R1002; `.eNone` when every check passes. -/
noncomputable def errorOf (i : Instr) (s : State) : ErrCode :=
  open Classical in
  if i.wf = false then .eIllegal
  else if usesField i = true ∧ s.cfgOk = false then .eNocfg
  else if aliases i = true then .eAlias
  else if usesCount i = true ∧ s.nbits.toNat > s.slot.width then .eParam
  else if usesSelector i = true ∧ ¬SelLegal s then .eSel
  else if tagFails s i then .eIsostate
  else if ∃ r ∈ sources i, s.F r ≥ s.mod then .eNoncanon
  else if i = .config ∧ acceptMod s.slot.width s.mod = false then .eBadmod
  else .eNone

/-- The F registers a command writes. -/
def destinations : Instr → List FReg
  | .nop | .config | .fptest _ _ | .fp2test _ _ | .cset _ _ | .get3 _ | .get4 _ | .get4f => []
  | .fpadd d _ _ | .fpsub d _ _ | .fpmul d _ _ | .fpsqr d _ | .fpneg d _ | .fpdiv2 d _ | .fpmov d _ | .fpseti d _
  | .fpcsel d _ _ | .fpinv d _ => [d]
  | .fpcswap a b => [a, b]
  | .fp2add d _ _ | .fp2sub d _ _ | .fp2mul d _ _ | .fp2sqr d _ | .fp2neg d _ | .fp2div2 d _ | .fp2mov d _
  | .fp2csel d _ _ | .fp2inv d _ | .jinv d | .recova d _ _ _ => EReg.comps d
  | .fp2cswap a b => EReg.comps a ++ EReg.comps b
  | .inv3 d => EReg.comps d ++ EReg.comps (EReg.plus d 1) ++ EReg.comps (EReg.plus d 2)
  | .inv4 d => EReg.comps d ++ EReg.comps (EReg.plus d 1) ++ EReg.comps (EReg.plus d 2) ++ EReg.comps (EReg.plus d 3)
  | .cget d a => EReg.comps d ++ EReg.comps a
  | .xdbl d _ | .xtpl d _ | .xadd d _ _ _ | .ladder d _ _ _ | .eval3 d _ | .eval4 d _ => PReg.comps d
  | .xdbladd d a _ => PReg.comps d ++ PReg.comps a
  | .pcswap a b => PReg.comps a ++ PReg.comps b

/-- The commands that write the curve registers (R110). -/
def writesCurve : Instr → Bool
  | .config | .cset _ _ | .get3 _ | .get4 _ | .get4f => true
  | _ => false

/-- The commands that write COEF (R926). -/
def writesCoef : Instr → Bool
  | .config | .get3 _ | .get4 _ | .get4f => true
  | _ => false

/-- The commands that write ISO (R116). -/
def writesIso : Instr → Bool
  | .config | .cset _ _ | .get3 _ | .get4 _ | .get4f | .eval3 _ _ | .eval4 _ _ => true
  | _ => false

/-- The commands that write EQ, LT and ODD (R120). -/
def writesTests : Instr → Bool
  | .config | .fptest _ _ | .fp2test _ _ => true
  | _ => false

/-- The commands that may write ZINV (R120, R601). -/
def writesZinv : Instr → Bool
  | .config | .fpinv _ _ | .fp2inv _ _ | .inv3 _ | .inv4 _ | .jinv _ | .recova _ _ _ _ => true
  | _ => false

/-- The invariant of R111 beside Sound: the curve registers of a configured CORE belong to one curve. -/
def SoundCurve (s : State) : Prop :=
  Safety.Sound s ∧ (s.cfgOk = true → Safety.CurveConsistent s.mod s.curve)

/-- What ERRCODE reads as for each error code (R1001). -/
def errorNumbers : List (ErrCode × Word) := [
  (.eNone, 0x00#32), (.eIllegal, 0x01#32), (.eNocfg, 0x02#32), (.eBadmod, 0x03#32), (.eNoncanon, 0x04#32),
  (.eAlias, 0x05#32), (.eSel, 0x06#32), (.eIsostate, 0x07#32), (.eParam, 0x08#32)]

/-- ISO.ST's numbers (R115): 0 = UNCOMPUTED, 1 = COMPUTED, 2 = EVALUATED. -/
def stNumbers : List (IsoSt × BitVec 2) := [(.uncomputed, 0#2), (.computed, 1#2), (.evaluated, 2#2)]

/-- ISO.TAG's numbers (R115): 0 = NONE, 1 = DEG3, 2 = DEG4, 3 = DEG4F. -/
def tagNumbers : List (IsoTag × BitVec 2) := [(.untagged, 0#2), (.deg3, 1#2), (.deg4, 2#2), (.deg4f, 3#2)]

/-- The latency counter of the command in flight after the CMD write of `w`. -/
def counterAfterCmd (w : Word) (s : State) : Option Nat :=
  (s.memWrite 0x014#16 .word 0xF#4 w).inflight.map InFlight.left

/-- `a` lies outside the ten slots of S bytes of the curve window (`base` 0x3000) or the COEF window (0x4000) (R220). -/
def outsideTenSlots (base S a : Nat) : Prop := a < base ∨ base + 10 * S ≤ a

/-- A soft-reset write: a write to CTRL with SRST = 1 (R1101). -/
def softResets (e : HostEvent) : Bool :=
  match e with
  | .write addr _ _ v => addr == 0x00C#16 && v.getLsbD 1
  | _ => false

/-- Byte j of the W-bit value v, the most significant first: v[W-1-8j : W-8-8j] (R205). -/
def bigEndianByte (w v j : Nat) : BitVec 8 := BitVec.ofNat 8 (v / 2 ^ (w - 8 - 8 * j))

end Sys2Proof.Claims

open Sys2Proof Sys2Proof.Machine Sys2Proof.Claims

/-! Encoding. -/

/-- R300, R301, R304: no operand of any command is lost in its word. -/
def Obligations.EncodeThenDecodeGivesTheCommand : Prop :=
  ∀ i : Instr, i.wf = true → decodeWord (encode i) = some i

/-- R303, R305: a legal word is the encoding of exactly the well-formed command it decodes to; no bit of it is ignored. -/
def Obligations.DecodeThenEncodeGivesTheWord : Prop :=
  ∀ (v : Word) (i : Instr), decodeWord v = some i → i.wf = true ∧ encode i = v

/-- R304: the legal words are those that a row's match and mask admit, less INV3's and INV4's extra bound on d. -/
def Obligations.MaskAndMatchGiveTheLegalWords : Prop :=
  ∀ v : Word, (decodeWord v).isSome = true ↔
    ∃ r ∈ opcodeTable, v &&& r.mask = r.matchBits ∧
      (r.mnemonic = "INV3" → (dField v).toNat ≤ 29) ∧ (r.mnemonic = "INV4" → (dField v).toNat ≤ 28)

/-- R308, row by row. -/
def Obligations.WorkedEncodingsDecode : Prop :=
  decodeWord 0x220C1080#32 = some (.fp2mul 3 1 2) ∧ decodeWord 0x171401AF#32 = some (.fpseti 5 431#18) ∧
  decodeWord 0x50080042#32 = some (.ladder 2 0 1 2) ∧ decodeWord 0x440420D4#32 = some (.xadd 1 2 3 20) ∧
  decodeWord 0x18007240#32 = some (.fpcswap 7 9) ∧ decodeWord 0x33200000#32 = some (.inv4 8) ∧
  decodeWord 0x60004000#32 = some (.get3 4) ∧ decodeWord 0x63145000#32 = some (.eval4 5 5) ∧
  decodeWord 0x4001E7C0#32 = some (.cset 30 31) ∧ decodeWord 0x01000000#32 = some .config ∧
  decodeWord 0x20A00000#32 = none ∧ decodeWord 0x10000001#32 = none ∧
  decodeWord 0x33740000#32 = none ∧ decodeWord 0xFF000000#32 = none

/-! The command's life: acceptance, execution, completion. -/

/-- R303, R1010: a step in which the command in flight completes is exec of the command its word decodes to, on the
state as it stands; and a word placed with withFetchWord is what the very next step runs. -/
def Obligations.StepRunsTheDecodedCommand : Prop :=
  (∀ (s : State) (c : InFlight) (i : Instr), s.inflight = some c → completesNow c s.host = true →
    decodeWord c.word = some i → step s = exec i s) ∧
  (∀ (s : State) (nbits w : Nat) (i : Instr), decodeTableWord nbits w = some i →
    step (s.withFetchWord nbits w) = exec i (s.withFetchWord nbits w)) ∧
  (∀ (s : State) (c : InFlight), s.inflight = some c → completesNow c s.host = false →
    step s = .next (serveCycle { s with inflight := some ⟨c.word, c.left - 1⟩ })) ∧
  (∀ s : State, s.inflight = none → step s = .next (serveCycle s))

/-- R305: a reserved opcode, like every illegal word, completes with E_ILLEGAL and changes only the completion state. -/
def Obligations.IllegalWordsCompleteAsIllegal : Prop :=
  (∀ (s : State) (c : InFlight), s.inflight = some c → completesNow c s.host = true →
    decodeWord c.word = none → step s = .next (failed s .eIllegal)) ∧
  (∀ v : Word, (∀ r ∈ opcodeTable, opField v ≠ opField r.matchBits) → decodeWord v = none) ∧
  (∀ (d : EReg) (s : State), 29 < d.val → exec (.inv3 d) s = .next (failed s .eIllegal)) ∧
  (∀ (d : EReg) (s : State), 28 < d.val → exec (.inv4 d) s = .next (failed s .eIllegal))

/-- R1002 with the table of R1004: the first failing check decides the code, and a command whose checks all pass completes
with E_NONE; E_ILLEGAL applies to every word that decodes to no command. -/
def Obligations.FirstFailingCheckDecidesTheCode : Prop :=
  (∀ (i : Instr) (s : State),
    (errorOf i s ≠ .eNone → exec i s = .next (failed s (errorOf i s))) ∧
    (errorOf i s = .eNone → ∃ t, exec i s = .next t ∧ t.errcode = .eNone)) ∧
  (∀ (w : Word) (s : State), decodeWord w = none → runWord w s = .next (failed s .eIllegal)) ∧
  (∀ (w : Word) (i : Instr) (s : State), decodeWord w = some i → runWord w s = exec i s)

/-- R1005: an error completion leaves everything but the completion record as it was, LASTCMD with the word its acceptance
wrote included, and re-issuing the command gives the same error. -/
def Obligations.ErrorsArePrecise : Prop :=
  (∀ (i : Instr) (s t : State), exec i s = .next t → t.errcode ≠ .eNone →
    t = { s with errcode := t.errcode, err := true, done := true, inflight := none } ∧ exec i t = .next t) ∧
  (∀ (w : Word) (s t : State), runWord w s = .next t → t.errcode ≠ .eNone →
    t = { s with errcode := t.errcode, err := true, done := true, inflight := none } ∧ runWord w t = .next t)

/-- R1010: every command completes: DONE is set, BUSY falls, ERR is set with an error and kept without one, and LASTCMD
keeps the word its acceptance wrote. -/
def Obligations.EveryCommandCompletes : Prop :=
  ∀ (i : Instr) (s : State), ∃ t, exec i s = .next t ∧ t.done = true ∧ t.busy = false ∧
    (t.errcode ≠ .eNone → t.err = true) ∧ (t.errcode = .eNone → t.err = s.err) ∧ t.lastcmd = s.lastcmd

/-- The frame of every command: what its rule does not name keeps its value. -/
def Obligations.CommandFrame : Prop :=
  ∀ (i : Instr) (s t : State), exec i s = .next t →
    (∀ r : FReg, r ∉ destinations i → t.F r = s.F r) ∧
    (writesCurve i = false → t.curve = s.curve) ∧
    (writesCoef i = false → t.coef = s.coef) ∧
    (writesIso i = false → t.iso = s.iso) ∧
    (writesTests i = false → t.flags.eq = s.flags.eq ∧ t.flags.lt = s.flags.lt ∧ t.flags.odd = s.flags.odd) ∧
    (writesZinv i = false → t.flags.zinv = s.flags.zinv) ∧
    (i ≠ .config → t.flags.zinv = false → s.flags.zinv = false) ∧
    (i ≠ .config → t.cfgOk = s.cfgOk ∧ t.pbits = s.pbits) ∧
    t.mod = s.mod ∧ t.scalar = s.scalar ∧ t.sel = s.sel ∧ t.nbits = s.nbits ∧ t.irqEn = s.irqEn ∧ t.ovr = s.ovr ∧
    t.lastcmd = s.lastcmd ∧ t.slot = s.slot ∧ t.inReset = s.inReset ∧
    t.host = s.host ∧ t.resp = s.resp ∧ t.resets = s.resets

/-- The same frame through the address map (R200: "Commands act only on the registers"): after every command, each byte from
0x1000 on reads as before, but for the bytes of the slots of the F registers the command writes (slot r of the F window is at
0x8000 + r*S, R220), of the curve slots for the commands that write the curve registers, and of the COEF slots for those that
write COEF. -/
def Obligations.AddressSpaceFrame : Prop :=
  ∀ (i : Instr) (s t : State) (addr : HostAddr), exec i s = .next t →
    0x1000 ≤ addr.toNat →
    (writesCurve i = true → outsideTenSlots 0x3000 s.slot.bytes addr.toNat) →
    (writesCoef i = true → outsideTenSlots 0x4000 s.slot.bytes addr.toNat) →
    (∀ r ∈ destinations i, addr.toNat < 0x8000 + r.val * s.slot.bytes ∨
      0x8000 + r.val * s.slot.bytes + s.slot.bytes ≤ addr.toNat) →
    t.readByte addr = s.readByte addr

/-- 93_implementation_defined.md: "No behaviour of CORE is stuck: every command completes, and every bus access ends". -/
def Obligations.NoStepStops : Prop := ∀ s : State, ∃ t, step s = .next t

/-- R1010, R1120: a command in flight completes after its latency and no later, and what it does is what its word does. -/
def Obligations.CommandCompletesAfterItsLatency : Prop :=
  ∀ (n : Nat) (s : State) (w : Word), s.inflight = some ⟨w, n⟩ → s.host = [] →
    core.run (n + 1) s = runWord w s ∧
    ∀ k t, k ≤ n → core.run k s = .next t → t = { s with inflight := some ⟨w, n - k⟩ }

/-- R125, R213: while a command is in flight, nothing the host does on the bus, but a soft reset, changes an operand, a
result, FLAGS, ISO, ERRCODE, LASTCMD or the command in flight. -/
def Obligations.OperandsAreStableWhileBusy : Prop :=
  ∀ (e : HostEvent) (s : State), s.busy = true → e ≠ .rstAssert → softResets e = false →
    let t := serveEvent e s
    t.inflight = s.inflight ∧ t.f = s.f ∧ t.mod = s.mod ∧ t.scalar = s.scalar ∧ t.curve = s.curve ∧
    t.coef = s.coef ∧ t.iso = s.iso ∧ t.flags = s.flags ∧ t.sel = s.sel ∧ t.nbits = s.nbits ∧ t.cfgOk = s.cfgOk ∧
    t.pbits = s.pbits ∧ t.errcode = s.errcode ∧ t.lastcmd = s.lastcmd ∧ t.slot = s.slot

/-- R1120, of the counter that the CMD write puts in flight: two successful runs of one opcode on idle instances of one
width, with one PBITS and, for LADDER, one NBITS, have one latency, whatever their operand fields and the data; and the
latency of an error depends on the opcode and the code alone (R1010). That the counter is set at acceptance is the model's
choice (log entry 5). -/
def Obligations.LatencyIsDataIndependent : Prop :=
  ∀ (w w' : Word) (s t s' t' : State), opField w = opField w' →
    s.inReset = false → s.busy = false → t.inReset = false → t.busy = false →
    runWord w s = .next s' → runWord w' t = .next t' → s'.errcode = t'.errcode →
    (s'.errcode = .eNone → s.slot = t.slot → s.pbits = t.pbits → (opField w = 0x50#8 → s.nbits = t.nbits) →
      counterAfterCmd w s = counterAfterCmd w' t) ∧
    (s'.errcode ≠ .eNone → counterAfterCmd w s = counterAfterCmd w' t)

/-! Invariants and resets. -/

/-- The invariant holds after a hardware reset, whatever the power-on contents and whatever the instance. -/
def Obligations.ResetStateIsSound : Prop :=
  SoundCurve State.reset ∧ ∀ (slot : SlotBytes) (contents : Nat → Nat), SoundCurve (State.powerUp slot contents)

/-- R101, R104, R105, R107, R115, R702: every step keeps the widths, the accepted modulus and its PBITS, the canonical curve
and COEF registers, and the legal ISO states. -/
def Obligations.EveryStepKeepsSound : Prop :=
  ∀ s t : State, Safety.Sound s → step s = .next t → Safety.Sound t

/-- R111: every step keeps the curve registers of a configured CORE consistent. -/
def Obligations.EveryStepKeepsTheCurveConsistent : Prop :=
  ∀ s t : State, SoundCurve s → step s = .next t → SoundCurve t

/-- R150 column H, R1100: what the assertion of `rst` leaves, whatever was in flight; F, MOD and SCALAR hold some W-bit
value (R1103). Bus accesses get a bus error until the release. -/
def Obligations.HardResetGivesColumnH : Prop :=
  ∀ s : State,
    let t := serveEvent .rstAssert s
    t.curve = ⟨⟨0, 0⟩, ⟨0, 0⟩, ⟨0, 0⟩, ⟨0, 0⟩, ⟨0, 0⟩⟩ ∧ t.coef = ⟨⟨0, 0⟩, ⟨0, 0⟩, ⟨0, 0⟩, ⟨0, 0⟩, ⟨0, 0⟩⟩ ∧
    t.iso = ⟨.uncomputed, .untagged⟩ ∧ t.flagsWord = 0#32 ∧ t.sel = 0#32 ∧ t.nbits = 0#16 ∧ t.ctrlWord = 0#32 ∧
    t.statusWord = 0#32 ∧ t.errcodeWord = 0#32 ∧ t.lastcmd = 0#32 ∧ t.pbits = 0 ∧ t.inflight = none ∧ t.irq = false ∧
    (∀ r : FReg, t.F r < 2 ^ s.slot.width) ∧ t.mod < 2 ^ s.slot.width ∧ t.scalar < 2 ^ s.slot.width ∧
    t.slot = s.slot ∧
    (∀ addr kind, t.memRead addr kind = .error) ∧ (∀ addr kind lanes, t.writeResp addr kind lanes = .error) ∧
    serveEvent .rstRelease t = { t with inReset := false }

/-- R1101: a CTRL write with SRST = 1 applies column S of R150, and aborts a command in flight with no effects; SRST reads
back 0; and no other write or read stops a command in flight. -/
def Obligations.SoftResetGivesColumnS : Prop :=
  (∀ (s : State) (addr : HostAddr) (kind : AccessKind) (lanes : BitVec 4) (v : Word), s.busy = true →
    softResets (.write addr kind lanes v) = false → (s.memWrite addr kind lanes v).inflight = s.inflight) ∧
  (∀ s : State, s.inReset = false → ∃ w, s.memRead 0x00C#16 .word = .data w ∧ w.getLsbD 1 = false) ∧
  ∀ (s : State) (v : Word), s.inReset = false → v.getLsbD 1 = true →
    s.memWrite 0x00C#16 .word 0xF#4 v =
      { s with curve := .zero, coef := .zero, iso := ⟨.uncomputed, .untagged⟩, flags := ⟨false, false, false, false⟩,
               sel := 0#32, nbits := 0#16, irqEn := false, done := false, err := false, cfgOk := false, ovr := false,
               errcode := .eNone, lastcmd := 0#32, pbits := 0, inflight := none }

/-- R1020: irq = STATUS.DONE AND CTRL.IRQ_EN; a completion, with or without error, raises it exactly when enabled; a CTRL
write enables or masks it while DONE keeps pending; an acceptance and a write of 1 to DONE take it away, and no other STATUS
write does. -/
def Obligations.InterruptIsDoneAndEnabled : Prop :=
  (∀ s : State, s.irq = (s.done && s.irqEn)) ∧
  (∀ (w : Word) (s t : State), runWord w s = .next t → t.irq = s.irqEn) ∧
  (∀ (s : State) (v : Word), s.inReset = false → v.getLsbD 1 = false →
    (s.memWrite 0x00C#16 .word 0xF#4 v).irq = (s.done && v.getLsbD 0) ∧
    (s.memWrite 0x00C#16 .word 0xF#4 v).done = s.done) ∧
  (∀ (s : State) (w : Word), s.inReset = false → s.busy = false → (s.memWrite 0x014#16 .word 0xF#4 w).irq = false) ∧
  (∀ (s : State) (v : Word), s.inReset = false →
    (s.memWrite 0x010#16 .word 0xF#4 v).irq = (s.irq && !v.getLsbD 1)) ∧
  (∀ s : State, s.softReset.irq = false ∧ s.hardReset.irq = false)

/-! Registers and their views. -/

/-- R102, R103: E[r] is the pair (F[2r], F[2r+1]) and P[n] the pair (E[2n], E[2n+1]); a write through a view changes exactly
those F registers, and a write of an F register shows through the views. -/
def Obligations.RegisterViewsShareStorage : Prop :=
  (∀ (s : State) (r r' : FReg) (v : Nat), (s.setF r v).F r' = if r' = r then v else s.F r') ∧
  (∀ (s : State) (r : EReg) (v : Gfp2), (s.setE r v).E r = v ∧
    ∀ x : FReg, x.val ≠ 2 * r.val → x.val ≠ 2 * r.val + 1 → (s.setE r v).F x = s.F x) ∧
  (∀ (s : State) (n : PReg) (v : Point), (s.setP n v).P n = v ∧
    ∀ x : FReg, x.val / 4 ≠ n.val → (s.setP n v).F x = s.F x) ∧
  (∀ (s : State) (r : EReg) (x y : FReg), x.val = 2 * r.val → y.val = 2 * r.val + 1 → s.E r = ⟨s.F x, s.F y⟩) ∧
  (∀ (s : State) (n : PReg) (x z : EReg), x.val = 2 * n.val → z.val = 2 * n.val + 1 → s.P n = ⟨s.E x, s.E z⟩)

/-! 40_gfp.md. -/

/-- R400, R401: NOP and CONFIG, both legal while CFG_OK = 0. -/
def Obligations.NopAndConfigComplete : Prop :=
  (∀ s : State, exec .nop s = .next (completed s)) ∧
  (∀ s : State, acceptMod s.slot.width s.mod = true →
    exec .config s = .next (completed { s with
      cfgOk := true, pbits := bitlength s.mod, curve := .zero, coef := .zero,
      iso := ⟨.uncomputed, .untagged⟩, flags := ⟨false, false, false, false⟩ })) ∧
  (∀ s : State, acceptMod s.slot.width s.mod = false → exec .config s = .next (failed s .eBadmod))

/-- R402: the acceptance predicate, condition by condition, in exact powers. -/
def Obligations.AcceptIsTheStrongProbablePrimeTest : Prop :=
  ∀ w m : Nat, acceptMod w m = true ↔
    m % 4 = 3 ∧ m < 2 ^ (w - 1) ∧
    ∀ q ∈ [2, 3, 5, 7, 11, 13, 17, 19, 23, 29, 31, 37],
      q % m = 0 ∨ q ^ ((m - 1) / 2) % m = 1 ∨ q ^ ((m - 1) / 2) % m = m - 1

/-- R402: "Every prime m ≡ 3 (mod 4) with at most W-1 bits is accepted". -/
def Obligations.EveryPrimeModulusIsAccepted : Prop :=
  ∀ w m : Nat, m.Prime → m % 4 = 3 → m < 2 ^ (w - 1) → acceptMod w m = true

/-- R410 to R412: FPADD, FPSUB and FPMUL. -/
def Obligations.FpaddFpsubFpmulWriteTheModularResult : Prop :=
  ∀ (d a b : FReg) (s : State),
    (s.cfgOk = true → s.F a < s.mod → s.F b < s.mod →
      exec (.fpadd d a b) s = .next (completed (s.setF d ((s.F a + s.F b) % s.mod))) ∧
      exec (.fpsub d a b) s = .next (completed (s.setF d (((s.F a : Int) - s.F b) % s.mod).toNat)) ∧
      exec (.fpmul d a b) s = .next (completed (s.setF d (s.F a * s.F b % s.mod)))) ∧
    ∀ i ∈ [Instr.fpadd d a b, .fpsub d a b, .fpmul d a b], NeedsConfig i s ∧ NeedsCanonical i [a, b] True s

/-- R413, R414, R416, R417: FPSQR, FPNEG, FPMOV and FPSETI. -/
def Obligations.FpsqrFpnegFpmovFpsetiWriteTheirResult : Prop :=
  ∀ (d a : FReg) (imm : Imm18) (s : State),
    (s.cfgOk = true → s.F a < s.mod →
      exec (.fpsqr d a) s = .next (completed (s.setF d (s.F a ^ 2 % s.mod))) ∧
      exec (.fpneg d a) s = .next (completed (s.setF d (if s.F a = 0 then 0 else s.mod - s.F a))) ∧
      exec (.fpmov d a) s = .next (completed (s.setF d (s.F a)))) ∧
    (s.cfgOk = true → exec (.fpseti d imm) s = .next (completed (s.setF d (imm.toNat % s.mod)))) ∧
    NeedsConfig (.fpseti d imm) s ∧
    ∀ i ∈ [Instr.fpsqr d a, .fpneg d a, .fpmov d a], NeedsConfig i s ∧ NeedsCanonical i [a] True s

/-- R415: FPDIV2 writes the value in [0, p) whose double is the operand modulo the odd p. -/
def Obligations.Fpdiv2WritesTheHalf : Prop :=
  ∀ (d a : FReg) (s : State),
    (s.cfgOk = true → s.mod % 2 = 1 → s.F a < s.mod →
      ∃ h, exec (.fpdiv2 d a) s = .next (completed (s.setF d h)) ∧ h < s.mod ∧ 2 * h % s.mod = s.F a ∧
        h = (if s.F a % 2 = 1 then s.F a + s.mod else s.F a) / 2) ∧
    NeedsConfig (.fpdiv2 d a) s ∧ NeedsCanonical (.fpdiv2 d a) [a] True s

/-- R450, R451: the conditional swap and select; SEL ∉ {0, 1} is E_SEL, and comes before E_NONCANON. -/
def Obligations.FpcswapFpcselFollowTheSelector : Prop :=
  ∀ (d a b : FReg) (s : State),
    (s.cfgOk = true → s.F a < s.mod → s.F b < s.mod →
      (s.sel = 0#32 → exec (.fpcswap a b) s = .next (completed s) ∧
        exec (.fpcsel d a b) s = .next (completed (s.setF d (s.F a)))) ∧
      (s.sel = 1#32 → exec (.fpcswap a b) s = .next (completed ((s.setF a (s.F b)).setF b (s.F a))) ∧
        exec (.fpcsel d a b) s = .next (completed (s.setF d (s.F b))))) ∧
    ∀ i ∈ [Instr.fpcswap a b, .fpcsel d a b],
      NeedsConfig i s ∧ Raises i (¬SelLegal s) .eSel s ∧ NeedsCanonical i [a, b] (SelLegal s) s

/-- R460: FPTEST writes EQ, LT and ODD, leaves ZINV, and writes no register. -/
def Obligations.FptestComparesIntegers : Prop :=
  ∀ (a b : FReg) (s : State),
    (s.cfgOk = true → s.F a < s.mod → s.F b < s.mod →
      exec (.fptest a b) s = .next (completed { s with flags :=
        ⟨decide (s.F a = s.F b), decide (s.F a < s.F b), decide (s.F a % 2 = 1), s.flags.zinv⟩ })) ∧
    NeedsConfig (.fptest a b) s ∧ NeedsCanonical (.fptest a b) [a, b] True s

/-! 41_gfp2.md. -/

/-- R510, R511, R514, R516: the sum, the difference, the negative and the copy, in exact Gaussian arithmetic. -/
def Obligations.Fp2addFp2subFp2negFp2movWriteTheirResult : Prop :=
  ∀ (d a b : EReg) (s : State),
    (s.cfgOk = true → Canonical s (EReg.comps a ++ EReg.comps b) →
      exec (.fp2add d a b) s = .next (completed (s.setE d (reduce s.mod (gauss (s.E a) + gauss (s.E b))))) ∧
      exec (.fp2sub d a b) s = .next (completed (s.setE d (reduce s.mod (gauss (s.E a) - gauss (s.E b)))))) ∧
    (s.cfgOk = true → Canonical s (EReg.comps a) →
      exec (.fp2neg d a) s = .next (completed (s.setE d (reduce s.mod (-gauss (s.E a))))) ∧
      exec (.fp2mov d a) s = .next (completed (s.setE d (s.E a)))) ∧
    (∀ i ∈ [Instr.fp2add d a b, .fp2sub d a b],
      NeedsConfig i s ∧ NeedsCanonical i (EReg.comps a ++ EReg.comps b) True s) ∧
    ∀ i ∈ [Instr.fp2neg d a, .fp2mov d a], NeedsConfig i s ∧ NeedsCanonical i (EReg.comps a) True s

/-- R512, R513, R515: the product with i^2 = -1, the square, and the half. -/
def Obligations.Fp2mulFp2sqrFp2div2WriteTheirResult : Prop :=
  ∀ (d a b : EReg) (s : State),
    (s.cfgOk = true → Canonical s (EReg.comps a ++ EReg.comps b) →
      exec (.fp2mul d a b) s = .next (completed (s.setE d (reduce s.mod (gauss (s.E a) * gauss (s.E b)))))) ∧
    (s.cfgOk = true → Canonical s (EReg.comps a) →
      exec (.fp2sqr d a) s = .next (completed (s.setE d (reduce s.mod (gauss (s.E a) ^ 2)))) ∧
      (s.mod % 2 = 1 → ∃ h, exec (.fp2div2 d a) s = .next (completed (s.setE d h)) ∧
        Safety.Below s.mod h ∧ reduce s.mod (2 * gauss h) = s.E a)) ∧
    NeedsConfig (.fp2mul d a b) s ∧ NeedsCanonical (.fp2mul d a b) (EReg.comps a ++ EReg.comps b) True s ∧
    ∀ i ∈ [Instr.fp2sqr d a, .fp2div2 d a], NeedsConfig i s ∧ NeedsCanonical i (EReg.comps a) True s

/-- R550, R551: both components under the same selector. -/
def Obligations.Fp2cswapFp2cselFollowTheSelector : Prop :=
  ∀ (d a b : EReg) (s : State),
    (s.cfgOk = true → Canonical s (EReg.comps a ++ EReg.comps b) →
      (s.sel = 0#32 → exec (.fp2cswap a b) s = .next (completed s) ∧
        exec (.fp2csel d a b) s = .next (completed (s.setE d (s.E a)))) ∧
      (s.sel = 1#32 → exec (.fp2cswap a b) s = .next (completed ((s.setE a (s.E b)).setE b (s.E a))) ∧
        exec (.fp2csel d a b) s = .next (completed (s.setE d (s.E b))))) ∧
    ∀ i ∈ [Instr.fp2cswap a b, .fp2csel d a b],
      NeedsConfig i s ∧ Raises i (¬SelLegal s) .eSel s ∧
      NeedsCanonical i (EReg.comps a ++ EReg.comps b) (SelLegal s) s

/-- R560: EQ of both components; LT = ODD = 0; ZINV and the registers unchanged. -/
def Obligations.Fp2testComparesComponents : Prop :=
  ∀ (a b : EReg) (s : State),
    (s.cfgOk = true → Canonical s (EReg.comps a ++ EReg.comps b) →
      exec (.fp2test a b) s = .next (completed { s with flags :=
        ⟨decide (s.E a = s.E b), false, false, s.flags.zinv⟩ })) ∧
    NeedsConfig (.fp2test a b) s ∧ NeedsCanonical (.fp2test a b) (EReg.comps a ++ EReg.comps b) True s

/-! 42_inverse.md. -/

/-- R600, R601, R610, R620, R621: the inverses in exact powers, and ZINV for a zero operand or norm, sticky. -/
def Obligations.FpinvFp2invWriteTheFermatInverse : Prop :=
  ∀ (d a : FReg) (e x : EReg) (s : State),
    (s.cfgOk = true → s.F a < s.mod →
      exec (.fpinv d a) s = .next (completed { s.setF d (s.F a ^ (s.mod - 2) % s.mod) with
        flags := { s.flags with zinv := s.flags.zinv || decide (s.F a = 0) } })) ∧
    (s.cfgOk = true → Canonical s (EReg.comps x) →
      exec (.fp2inv e x) s = .next (completed { s.setE e (inverseOf s.mod (s.E x)) with
        flags := { s.flags with zinv := s.flags.zinv || decide (normOf s.mod (s.E x) = 0) } })) ∧
    NeedsConfig (.fpinv d a) s ∧ NeedsCanonical (.fpinv d a) [a] True s ∧
    NeedsConfig (.fp2inv e x) s ∧ NeedsCanonical (.fp2inv e x) (EReg.comps x) True s

/-- R630, R631: the batch inverses in place, each output the inverse of the product times the other inputs. -/
def Obligations.Inv3Inv4WriteTheBatchInverse : Prop :=
  (∀ (d d1 d2 : EReg) (s : State), d1.val = d.val + 1 → d2.val = d.val + 2 → s.cfgOk = true →
    Canonical s (EReg.comps d ++ EReg.comps d1 ++ EReg.comps d2) →
    let z0 := gauss (s.E d)
    let z1 := gauss (s.E d1)
    let z2 := gauss (s.E d2)
    let m := reduce s.mod (z0 * z1 * z2)
    let i := gauss (inverseOf s.mod m)
    exec (.inv3 d) s = .next (completed
      { ((s.setE d (reduce s.mod (i * z1 * z2))).setE d1 (reduce s.mod (i * z0 * z2))).setE d2
          (reduce s.mod (i * z0 * z1)) with
        flags := { s.flags with zinv := s.flags.zinv || decide (normOf s.mod m = 0) } })) ∧
  (∀ (d d1 d2 d3 : EReg) (s : State), d1.val = d.val + 1 → d2.val = d.val + 2 → d3.val = d.val + 3 → s.cfgOk = true →
    Canonical s (EReg.comps d ++ EReg.comps d1 ++ EReg.comps d2 ++ EReg.comps d3) →
    let z0 := gauss (s.E d)
    let z1 := gauss (s.E d1)
    let z2 := gauss (s.E d2)
    let z3 := gauss (s.E d3)
    let m := reduce s.mod (z0 * z1 * z2 * z3)
    let i := gauss (inverseOf s.mod m)
    exec (.inv4 d) s = .next (completed
      { (((s.setE d (reduce s.mod (i * z1 * z2 * z3))).setE d1 (reduce s.mod (i * z0 * z2 * z3))).setE d2
          (reduce s.mod (i * z0 * z1 * z3))).setE d3 (reduce s.mod (i * z0 * z1 * z2)) with
        flags := { s.flags with zinv := s.flags.zinv || decide (normOf s.mod m = 0) } }))

/-- R600, R610: for a prime p ≡ 3 (mod 4), invp and inv2 give the inverse of every nonzero value, and 0 for 0. -/
def Obligations.InversesInvertModuloAPrime : Prop :=
  ∀ p : Nat, p.Prime → p % 4 = 3 →
    (∀ a, 0 < a → a < p → mulp p a (invp p a) = 1) ∧ invp p 0 = 0 ∧
    (∀ x, Safety.Below p x → x ≠ ⟨0, 0⟩ → mul2 p x (inv2 p x) = ⟨1, 0⟩ ∧ norm2 p x ≠ 0) ∧ inv2 p ⟨0, 0⟩ = ⟨0, 0⟩

/-- R630, R631: for a prime p ≡ 3 (mod 4) and inputs that are all nonzero, the batch outputs are what inv2 gives; with a
zero input every output is (0, 0). -/
def Obligations.BatchInverseEqualsTheSingleInverses : Prop :=
  ∀ p : Nat, p.Prime → p % 4 = 3 → ∀ z0 z1 z2 z3 : Gfp2,
    Safety.Below p z0 → Safety.Below p z1 → Safety.Below p z2 → Safety.Below p z3 →
    (z0 ≠ ⟨0, 0⟩ → z1 ≠ ⟨0, 0⟩ → z2 ≠ ⟨0, 0⟩ →
      inv3Formula p z0 z1 z2 = (inv2 p z0, inv2 p z1, inv2 p z2) ∧
      (z3 ≠ ⟨0, 0⟩ → inv4Formula p z0 z1 z2 z3 = (inv2 p z0, inv2 p z1, inv2 p z2, inv2 p z3))) ∧
    (⟨0, 0⟩ ∈ [z0, z1, z2] → inv3Formula p z0 z1 z2 = (⟨0, 0⟩, ⟨0, 0⟩, ⟨0, 0⟩) ∧
      norm2 p (inv3Product p z0 z1 z2) = 0) ∧
    (⟨0, 0⟩ ∈ [z0, z1, z2, z3] → inv4Formula p z0 z1 z2 z3 = (⟨0, 0⟩, ⟨0, 0⟩, ⟨0, 0⟩, ⟨0, 0⟩) ∧
      norm2 p (inv4Product p z0 z1 z2 z3) = 0)

/-! 43_curve.md. -/

/-- R700, R701: CSET loads the curve and clears ISO; CGET copies (CA, CC); d = a is E_ALIAS. -/
def Obligations.CsetCgetMoveTheCurve : Prop :=
  (∀ (a b : EReg) (s : State), s.cfgOk = true → Canonical s (EReg.comps a ++ EReg.comps b) →
    let A := gauss (s.E a)
    let C := gauss (s.E b)
    exec (.cset a b) s = .next (completed { s with
      curve := ⟨s.E a, s.E b, reduce s.mod (A + 2 * C), reduce s.mod (A - 2 * C), reduce s.mod (4 * C)⟩
      iso := ⟨.uncomputed, .untagged⟩ })) ∧
  (∀ (d a : EReg) (s : State), s.cfgOk = true → d ≠ a →
    exec (.cget d a) s = .next (completed ((s.setE d s.curve.ca).setE a s.curve.cc))) ∧
  (∀ (a b : EReg) (s : State), NeedsConfig (.cset a b) s ∧
    NeedsCanonical (.cset a b) (EReg.comps a ++ EReg.comps b) True s) ∧
  (∀ (d a : EReg) (s : State), NeedsConfig (.cget d a) s ∧ Raises (.cget d a) (d = a) .eAlias s)

/-- R710, R712, R713: doubling, differential addition, and both at once from the values before the command. -/
def Obligations.XdblXaddXdbladdWriteTheirPoints : Prop :=
  (∀ (d a : PReg) (s : State), s.cfgOk = true → Canonical s (PReg.comps a) →
    exec (.xdbl d a) s = .next (completed (s.setP d (double s.mod s.curve.ca24p s.curve.cc24 (s.P a))))) ∧
  (∀ (d a b : PReg) (c : EReg) (s : State), s.cfgOk = true →
    Canonical s (PReg.comps a ++ PReg.comps b ++ EReg.comps c) →
    exec (.xadd d a b c) s = .next (completed (s.setP d (diffAdd s.mod (s.P a) (s.P b) (s.E c))))) ∧
  (∀ (d a : PReg) (b : EReg) (s : State), s.cfgOk = true → d ≠ a →
    Canonical s (PReg.comps d ++ PReg.comps a ++ EReg.comps b) →
    exec (.xdbladd d a b) s = .next (completed
      ((s.setP d (double s.mod s.curve.ca24p s.curve.cc24 (s.P d))).setP a
        (diffAdd s.mod (s.P d) (s.P a) (s.E b))))) ∧
  (∀ (d a b : PReg) (c : EReg) (s : State),
    NeedsConfig (.xdbl d a) s ∧ NeedsCanonical (.xdbl d a) (PReg.comps a) True s ∧
    NeedsConfig (.xadd d a b c) s ∧
    NeedsCanonical (.xadd d a b c) (PReg.comps a ++ PReg.comps b ++ EReg.comps c) True s ∧
    NeedsConfig (.xdbladd d a c) s ∧ Raises (.xdbladd d a c) (d = a) .eAlias s ∧
    NeedsCanonical (.xdbladd d a c) (PReg.comps d ++ PReg.comps a ++ EReg.comps c) (d ≠ a) s)

/-- R711: tripling. -/
def Obligations.XtplWritesTheTriple : Prop :=
  ∀ (d a : PReg) (s : State),
    (s.cfgOk = true → Canonical s (PReg.comps a) →
      exec (.xtpl d a) s = .next (completed (s.setP d (triple s.mod s.curve.ca24p s.curve.ca24m (s.P a))))) ∧
    NeedsConfig (.xtpl d a) s ∧ NeedsCanonical (.xtpl d a) (PReg.comps a) True s

/-- R720: the four components of two points, under the selector. -/
def Obligations.PcswapFollowsTheSelector : Prop :=
  ∀ (a b : PReg) (s : State),
    (s.cfgOk = true → Canonical s (PReg.comps a ++ PReg.comps b) →
      (s.sel = 0#32 → exec (.pcswap a b) s = .next (completed s)) ∧
      (s.sel = 1#32 → exec (.pcswap a b) s = .next (completed ((s.setP a (s.P b)).setP b (s.P a))))) ∧
    NeedsConfig (.pcswap a b) s ∧ Raises (.pcswap a b) (¬SelLegal s) .eSel s ∧
    NeedsCanonical (.pcswap a b) (PReg.comps a ++ PReg.comps b) (SelLegal s) s

/-- R730, R740: the j-invariant 256 (A^2-3C^2)^3 / (C^4 (A^2-4C^2)) and the recovered coefficient
(xP·xQ + xP·xR + xQ·xR - 1)^2 / (4·xP·xQ·xR) - (xP + xQ + xR), with ZINV for a denominator of norm 0. That p > 0 in a
configured CORE is part of Sound. -/
def Obligations.JinvRecovaWriteTheirValue : Prop :=
  (∀ (d : EReg) (s : State), s.cfgOk = true → 0 < s.mod →
    let A := gauss s.curve.ca
    let C := gauss s.curve.cc
    let den := reduce s.mod (C ^ 4 * (A ^ 2 - 4 * C ^ 2))
    exec (.jinv d) s = .next (completed
      { s.setE d (reduce s.mod (256 * (A ^ 2 - 3 * C ^ 2) ^ 3 * gauss (inverseOf s.mod den))) with
        flags := { s.flags with zinv := s.flags.zinv || decide (normOf s.mod den = 0) } })) ∧
  (∀ (d a b c : EReg) (s : State), s.cfgOk = true → Canonical s (EReg.comps a ++ EReg.comps b ++ EReg.comps c) →
    let xP := gauss (s.E a)
    let xQ := gauss (s.E b)
    let xR := gauss (s.E c)
    let dn := reduce s.mod (4 * xP * xQ * xR)
    exec (.recova d a b c) s = .next (completed
      { s.setE d (reduce s.mod ((xP * xQ + xP * xR + xQ * xR - 1) ^ 2 * gauss (inverseOf s.mod dn)
          - (xP + xQ + xR))) with
        flags := { s.flags with zinv := s.flags.zinv || decide (normOf s.mod dn = 0) } })) ∧
  (∀ (d a b c : EReg) (s : State), NeedsConfig (.jinv d) s ∧ NeedsConfig (.recova d a b c) s ∧
    NeedsCanonical (.recova d a b c) (EReg.comps a ++ EReg.comps b ++ EReg.comps c) True s)

/-! 44_ladder.md. -/

/-- R800, R801: the ladder over the bits NBITS-1 down to 0 of SCALAR; NBITS > W is E_PARAM. -/
def Obligations.LadderWritesTheThreePointLadder : Prop :=
  ∀ (d : PReg) (a b c : EReg) (s : State),
    (s.cfgOk = true → s.nbits.toNat ≤ s.slot.width → Canonical s (EReg.comps a ++ EReg.comps b ++ EReg.comps c) →
      exec (.ladder d a b c) s = .next (completed (s.setP d
        (ladderResult s.mod s.curve.ca24p s.curve.cc24 (s.E a) (s.E b) (s.E c) s.scalar s.nbits.toNat)))) ∧
    NeedsConfig (.ladder d a b c) s ∧ Raises (.ladder d a b c) (s.slot.width < s.nbits.toNat) .eParam s ∧
    NeedsCanonical (.ladder d a b c) (EReg.comps a ++ EReg.comps b ++ EReg.comps c)
      (s.nbits.toNat ≤ s.slot.width) s

/-- R802: the branch-free schedule gives the values of R801, whatever the scalar, the count and the registers. -/
def Obligations.LadderSchedulesAgree : Prop :=
  ∀ (p : Nat), 0 < p → ∀ (c : LadderInput) (m n : Nat) (r : LadderRegs),
    swapLoop p c m n r = ladderLoop p c m n r

/-- R800, R803: "Bits of SCALAR at and above NBITS are ignored", and NBITS = 0 gives (xP : (1,0)). -/
def Obligations.LadderUsesTheLowScalarBits : Prop :=
  (∀ (p : Nat) (c : LadderInput) (m n : Nat), ladder3 p c m n = ladder3 p c (m % 2 ^ n) n) ∧
  (∀ (p : Nat) (c : LadderInput) (m : Nat), 1 < p → ladder3 p c m 0 = ⟨c.xP, ⟨1, 0⟩⟩)

/-! 45_isogeny.md. -/

/-- R900, R905: the 3-isogeny. R900 multiplied out: A24P = (3X+Z)^3 (X-Z), A24M = (3X-Z)^3 (X+Z), CC24 = A24P - A24M,
CA = 2(A24P + A24M); COEF = X-Z, X+Z. -/
def Obligations.Get3Eval3FollowTheThreeIsogeny : Prop :=
  (∀ (a : PReg) (s : State), s.cfgOk = true → Canonical s (PReg.comps a) →
    let X := gauss (s.P a).x
    let Z := gauss (s.P a).z
    let P := (3 * X + Z) ^ 3 * (X - Z)
    let M := (3 * X - Z) ^ 3 * (X + Z)
    exec (.get3 a) s = .next (completed { s with
      curve := ⟨reduce s.mod (2 * (P + M)), reduce s.mod (P - M), reduce s.mod P, reduce s.mod M,
                reduce s.mod (P - M)⟩
      coef := ⟨reduce s.mod (X - Z), reduce s.mod (X + Z), ⟨0, 0⟩, ⟨0, 0⟩, ⟨0, 0⟩⟩
      iso := ⟨.computed, .deg3⟩ })) ∧
  (∀ (d a : PReg) (s : State), s.cfgOk = true → s.iso.tag = .deg3 → Canonical s (PReg.comps a) →
    let X := gauss (s.P a).x
    let Z := gauss (s.P a).z
    let t0 := (X + Z) * gauss s.coef.k0
    let t1 := (X - Z) * gauss s.coef.k1
    exec (.eval3 d a) s = .next (completed { s.setP d
      ⟨reduce s.mod (X * (t0 + t1) ^ 2), reduce s.mod (Z * (t1 - t0) ^ 2)⟩ with iso := ⟨.evaluated, .deg3⟩ })) ∧
  (∀ (d a : PReg) (s : State), NeedsConfig (.get3 a) s ∧ NeedsCanonical (.get3 a) (PReg.comps a) True s ∧
    NeedsConfig (.eval3 d a) s ∧ Raises (.eval3 d a) (s.iso.tag ≠ .deg3) .eIsostate s ∧
    NeedsCanonical (.eval3 d a) (PReg.comps a) (s.iso.tag = .deg3) s)

/-- R910, R915 with TAG = DEG4: the interior 4-isogeny. R910 multiplied out: A24P = 4X^4, CC24 = 4Z^4,
CA = 16X^4 - 8Z^4; COEF = 4Z^2, X-Z, X+Z. -/
def Obligations.Get4Eval4FollowTheFourIsogeny : Prop :=
  (∀ (a : PReg) (s : State), s.cfgOk = true → Canonical s (PReg.comps a) →
    let X := gauss (s.P a).x
    let Z := gauss (s.P a).z
    exec (.get4 a) s = .next (completed { s with
      curve := ⟨reduce s.mod (16 * X ^ 4 - 8 * Z ^ 4), reduce s.mod (4 * Z ^ 4), reduce s.mod (4 * X ^ 4),
                reduce s.mod (4 * X ^ 4 - 4 * Z ^ 4), reduce s.mod (4 * Z ^ 4)⟩
      coef := ⟨reduce s.mod (4 * Z ^ 2), reduce s.mod (X - Z), reduce s.mod (X + Z), ⟨0, 0⟩, ⟨0, 0⟩⟩
      iso := ⟨.computed, .deg4⟩ })) ∧
  (∀ (d a : PReg) (s : State), s.cfgOk = true → s.iso.tag = .deg4 → Canonical s (PReg.comps a) →
    let X := gauss (s.P a).x
    let Z := gauss (s.P a).z
    let u := (X + Z) * gauss s.coef.k1
    let v := (X - Z) * gauss s.coef.k2
    let w := (X + Z) * (X - Z) * gauss s.coef.k0
    exec (.eval4 d a) s = .next (completed { s.setP d
      ⟨reduce s.mod (((u + v) ^ 2 + w) * (u + v) ^ 2), reduce s.mod ((u - v) ^ 2 * ((u - v) ^ 2 - w))⟩ with
      iso := ⟨.evaluated, .deg4⟩ })) ∧
  (∀ (d a : PReg) (s : State), NeedsConfig (.get4 a) s ∧ NeedsCanonical (.get4 a) (PReg.comps a) True s ∧
    NeedsConfig (.eval4 d a) s ∧
    Raises (.eval4 d a) (s.iso.tag ≠ .deg4 ∧ s.iso.tag ≠ .deg4f) .eIsostate s ∧
    NeedsCanonical (.eval4 d a) (PReg.comps a) (s.iso.tag = .deg4 ∨ s.iso.tag = .deg4f) s)

/-- R920, R915 with TAG = DEG4F: the first 4-isogeny. R920 multiplied out: (A' : C') = (2A+12C : A-2C),
A24P = 4A + 8C, A24M = 16C, CC24 = 4A - 8C; COEF = C, A-2C. -/
def Obligations.Get4fEval4FollowTheFirstFourIsogeny : Prop :=
  (∀ s : State, s.cfgOk = true → 0 < s.mod →
    let A := gauss s.curve.ca
    let C := gauss s.curve.cc
    exec .get4f s = .next (completed { s with
      curve := ⟨reduce s.mod (2 * A + 12 * C), reduce s.mod (A - 2 * C), reduce s.mod (4 * A + 8 * C),
                reduce s.mod (16 * C), reduce s.mod (4 * A - 8 * C)⟩
      coef := ⟨s.curve.cc, reduce s.mod (A - 2 * C), ⟨0, 0⟩, ⟨0, 0⟩, ⟨0, 0⟩⟩
      iso := ⟨.computed, .deg4f⟩ })) ∧
  (∀ (d a : PReg) (s : State), s.cfgOk = true → s.iso.tag = .deg4f → Canonical s (PReg.comps a) →
    let X := gauss (s.P a).x
    let Z := gauss (s.P a).z
    let q := (X + Z) ^ 2
    exec (.eval4 d a) s = .next (completed { s.setP d
      ⟨reduce s.mod (q * (gauss s.coef.k0 * q + gauss s.coef.k1 * (X * Z))),
       reduce s.mod (-(gauss s.coef.k1 * (X * Z) * (X - Z) ^ 2))⟩ with iso := ⟨.evaluated, .deg4f⟩ })) ∧
  (∀ s : State, NeedsConfig .get4f s)

/-- R925: a 3- or 4-isogeny evaluated at the point it was computed from, and the first 4-isogeny at (1 : 1), give Z' = 0. -/
def Obligations.IsogenyKernelLaw : Prop :=
  (∀ (k j : PReg) (s t u : State), exec (.get3 k) s = .next t → t.errcode = .eNone →
    exec (.eval3 j k) t = .next u → u.errcode = .eNone ∧ (u.P j).z = ⟨0, 0⟩) ∧
  (∀ (k j : PReg) (s t u : State), exec (.get4 k) s = .next t → t.errcode = .eNone →
    exec (.eval4 j k) t = .next u → u.errcode = .eNone ∧ (u.P j).z = ⟨0, 0⟩) ∧
  (∀ (k j : PReg) (s t u : State), exec .get4f s = .next t → t.errcode = .eNone →
    1 < t.mod → t.P k = ⟨⟨1, 0⟩, ⟨1, 0⟩⟩ →
    exec (.eval4 j k) t = .next u → u.errcode = .eNone ∧ (u.P j).z = ⟨0, 0⟩)

/-! The host bus. -/

/-- R211: a legal write of a word of an F, MOD or SCALAR slot of an idle CORE is read back, whatever its value, and every
other word of every slot reads as before; beside the register written nothing changes, except that a MOD write clears CFG_OK
(PBITS keeps its value, R105, R141, U26); a write to a curve or COEF slot or to a reserved address
is ignored (R211, R220). That the reserved tail of the MOD window, at 0x1000 + SLOT_BYTES and above, is among the reserved
addresses and its write keeps CFG_OK, where R104 and R133 speak of any word of the MOD window, is the model's reading (log
entry 10, DEDUCED). -/
def Obligations.SlotWordsReadBackAsWritten : Prop :=
  (∀ (s : State) (addr : HostAddr) (v : Word),
    ((∃ j k, s.target addr = .curveWord j k) ∨ (∃ j k, s.target addr = .coefWord j k) ∨ s.target addr = .reserved) →
    s.memWrite addr .word 0xF#4 v = s) ∧
  ∀ (s : State) (addr b : HostAddr) (v : Word), s.inReset = false → s.busy = false →
    addr.toNat % 4 = 0 → b.toNat % 4 = 0 →
    ((∃ k, s.target addr = .modWord k) ∨ (∃ k, s.target addr = .scalarWord k) ∨ (∃ r k, s.target addr = .fWord r k)) →
    let t := s.memWrite addr .word 0xF#4 v
    (∀ k, s.target addr = .modWord k → ∃ x, t = { s with mod := x, cfgOk := false }) ∧
    (∀ k, s.target addr = .scalarWord k → ∃ x, t = { s with scalar := x }) ∧
    (∀ r k, s.target addr = .fWord r k → ∃ x, t = s.setF r x) ∧
    t.memRead addr .word = .data v ∧
    (b ≠ addr → 0x1000 ≤ b.toNat → t.memRead b .word = s.memRead b .word) ∧
    ((∃ k, s.target addr = .modWord k) → t.cfgOk = false) ∧
    ((∀ k, s.target addr ≠ .modWord k) → t.cfgOk = s.cfgOk)

/-- R201, R212: an access that is misaligned, is no full-word access or lacks a byte lane gets a bus error, and a write that
gets a bus error changes no state; serving a read or a write has the effect of MemRead or MemWrite, with CORE's answer on the
bus. That burst and locked accesses are
among those R201 refuses is log entry 13 (DEDUCED), and that the answer is kept in resp log entry 14 (DESIGN CHOICE). -/
def Obligations.BusErrorsChangeNothing : Prop :=
  (∀ (s : State) (addr : HostAddr) (kind : AccessKind), addr.toNat % 4 ≠ 0 ∨ kind ≠ .word →
    s.memRead addr kind = .error) ∧
  (∀ (s : State) (addr : HostAddr) (kind : AccessKind) (lanes : BitVec 4),
    addr.toNat % 4 ≠ 0 ∨ kind ≠ .word ∨ lanes ≠ 0xF#4 → s.writeResp addr kind lanes = .error) ∧
  (∀ (s : State) (addr : HostAddr) (kind : AccessKind) (lanes : BitVec 4) (v : Word),
    s.writeResp addr kind lanes = .error → s.memWrite addr kind lanes v = s) ∧
  (∀ (s : State) (addr : HostAddr) (kind : AccessKind),
    serveEvent (.read addr kind) s = { s with resp := some (s.memRead addr kind) }) ∧
  (∀ (s : State) (addr : HostAddr) (kind : AccessKind) (lanes : BitVec 4) (v : Word),
    serveEvent (.write addr kind lanes v) s =
      { s.memWrite addr kind lanes v with resp := some (s.writeResp addr kind lanes) })

/-- R213: while busy, a slot of a data window gets a bus error for a read and a write, with no effect, and so does a write to
FLAGS, SEL or NBITS; CSR reads, writes to CTRL, STATUS and CMD, and the reserved tails stay legal. -/
def Obligations.BusyBlocksTheWindows : Prop :=
  ∀ (s : State) (addr : HostAddr), s.inReset = false → s.busy = true → addr.toNat % 4 = 0 →
    ((s.target addr).isSlot = true → s.memRead addr .word = .error ∧ s.writeResp addr .word 0xF#4 = .error ∧
      ∀ v, s.memWrite addr .word 0xF#4 v = s) ∧
    (addr.toNat ∈ [0x020, 0x024, 0x028] → s.writeResp addr .word 0xF#4 = .error ∧
      ∀ v, s.memWrite addr .word 0xF#4 v = s) ∧
    (addr.toNat < 0x100 → s.memRead addr .word = .data (s.readCsr addr.toNat)) ∧
    (addr.toNat ∈ [0x00C, 0x010, 0x014] → s.writeResp addr .word 0xF#4 = .written) ∧
    (s.target addr = .reserved → s.memRead addr .word = .data 0#32 ∧ s.writeResp addr .word 0xF#4 = .written)

/-- R134: a CMD write while idle sets BUSY, clears DONE and records the word in LASTCMD, with the latency of its run in the
counter, and the command runs as its word decodes; while busy it is discarded and sets OVR; a read of CMD returns 0 and has no
effect. That the counter holds latencyLeft at acceptance is the model's choice (log entry 5), and so is that CORE's
answer is kept in resp (log entry 14). -/
def Obligations.CmdWritesAreAcceptedWhileIdle : Prop :=
  (∀ (s : State) (v : Word), s.inReset = false → s.busy = false →
    s.memWrite 0x014#16 .word 0xF#4 v =
      { s with inflight := some ⟨v, latencyLeft v s⟩, done := false, lastcmd := v } ∧
    ∀ (t : State) (i : Instr), decodeWord v = some i → runWord v t = exec i t) ∧
  (∀ (s : State) (v : Word), s.inReset = false → s.busy = true →
    s.memWrite 0x014#16 .word 0xF#4 v = { s with ovr := true }) ∧
  (∀ s : State, s.inReset = false → s.memRead 0x014#16 .word = .data 0#32 ∧
    serveEvent (.read 0x014#16 .word) s = { s with resp := some (.data 0#32) })

/-- R132, R133, R137 to R139, R142: what a write to each CSR changes; a read-only or reserved CSR ignores it. -/
def Obligations.CsrWritesChangeTheirFields : Prop :=
  ∀ (s : State) (v : Word), s.inReset = false →
    (v.getLsbD 1 = false → s.memWrite 0x00C#16 .word 0xF#4 v = { s with irqEn := v.getLsbD 0 }) ∧
    s.memWrite 0x010#16 .word 0xF#4 v =
      { s with done := s.done && !v.getLsbD 1, err := s.err && !v.getLsbD 2, ovr := s.ovr && !v.getLsbD 4 } ∧
    (s.busy = false →
      s.memWrite 0x020#16 .word 0xF#4 v =
        { s with flags := ⟨s.flags.eq, s.flags.lt, s.flags.odd, s.flags.zinv && !v.getLsbD 3⟩ } ∧
      s.memWrite 0x024#16 .word 0xF#4 v = { s with sel := v } ∧
      s.memWrite 0x028#16 .word 0xF#4 v = { s with nbits := v.extractLsb' 0 16 }) ∧
    (∀ a : HostAddr, a.toNat ∈ [0x000, 0x004, 0x008, 0x018, 0x01C, 0x02C, 0x030] ∨ (0x034 ≤ a.toNat ∧ a.toNat < 0x1000) →
      s.memWrite a .word 0xF#4 v = s)

/-- R131 to R142: what each CSR reads as, bit by bit, ERRCODE with the numbers of R1001 and ISO with those of R115, and that
nothing else below 0x1000 reads nonzero. -/
def Obligations.CsrReadsShowTheirFields : Prop :=
  ∀ s : State, s.inReset = false →
    s.memRead 0x000#16 .word = .data 0x53494443#32 ∧ s.memRead 0x004#16 .word = .data 0x00000001#32 ∧
    s.memRead 0x008#16 .word = .data (BitVec.ofNat 32 (s.slot.bytes + 32 * 2 ^ 16 + 5 * 2 ^ 24)) ∧
    s.memRead 0x00C#16 .word = .data (BitVec.ofNat 32 s.irqEn.toNat) ∧
    (∃ v, s.memRead 0x010#16 .word = .data v ∧ v.getLsbD 0 = s.busy ∧ v.getLsbD 1 = s.done ∧ v.getLsbD 2 = s.err ∧
      v.getLsbD 3 = s.cfgOk ∧ v.getLsbD 4 = s.ovr ∧ v.toNat < 32) ∧
    (∀ code n, (code, n) ∈ errorNumbers → s.errcode = code → s.memRead 0x018#16 .word = .data n) ∧
    s.memRead 0x01C#16 .word = .data s.lastcmd ∧
    (∃ v, s.memRead 0x020#16 .word = .data v ∧ v.getLsbD 0 = s.flags.eq ∧ v.getLsbD 1 = s.flags.lt ∧
      v.getLsbD 2 = s.flags.odd ∧ v.getLsbD 3 = s.flags.zinv ∧ v.toNat < 16) ∧
    s.memRead 0x024#16 .word = .data s.sel ∧
    (∃ v, s.memRead 0x028#16 .word = .data v ∧ v.toNat = s.nbits.toNat) ∧
    (∃ v, s.memRead 0x02C#16 .word = .data v ∧ v.toNat < 16 ∧
      (∀ st n, (st, n) ∈ stNumbers → s.iso.st = st → v.extractLsb' 0 2 = n) ∧
      (∀ tag n, (tag, n) ∈ tagNumbers → s.iso.tag = tag → v.extractLsb' 2 2 = n)) ∧
    (s.pbits < 2 ^ 16 → s.memRead 0x030#16 .word = .data (BitVec.ofNat 32 s.pbits)) ∧
    ∀ a : HostAddr, a.toNat % 4 = 0 → 0x034 ≤ a.toNat → a.toNat < 0x1000 → s.memRead a .word = .data 0#32

/-- R220: where the slots lie, for S = SLOT_BYTES: MOD at 0x1000, SCALAR at 0x2000, curve register k's component c at
0x3000 + (2k+c)*S, COEF[k]'s at 0x4000 + (2k+c)*S, F[i] at 0x8000 + i*S, and everything else from 0x0100 on reserved. -/
def Obligations.AddressMapPlacesTheSlots : Prop :=
  ∀ (b : SlotBytes) (o : Nat), o < b.bytes →
    targetOf b.bytes (0x1000 + o) = .modWord (o / 4) ∧ targetOf b.bytes (0x2000 + o) = .scalarWord (o / 4) ∧
    (∀ j : Fin 10, targetOf b.bytes (0x3000 + j.val * b.bytes + o) = .curveWord j (o / 4)) ∧
    (∀ j : Fin 10, targetOf b.bytes (0x4000 + j.val * b.bytes + o) = .coefWord j (o / 4)) ∧
    (∀ i : FReg, targetOf b.bytes (0x8000 + i.val * b.bytes + o) = .fWord i (o / 4)) ∧
    (∀ a, a < 0x100 → targetOf b.bytes a = .csr a) ∧
    ∀ a, a < 0x10000 →
      (0x100 ≤ a ∧ a < 0x1000) ∨ (0x1000 + b.bytes ≤ a ∧ a < 0x2000) ∨ (0x2000 + b.bytes ≤ a ∧ a < 0x3000) ∨
      (0x3000 + 10 * b.bytes ≤ a ∧ a < 0x4000) ∨ (0x4000 + 10 * b.bytes ≤ a ∧ a < 0x8000) ∨
      (0x8000 + 64 * b.bytes ≤ a) → targetOf b.bytes a = .reserved

/-- R205, R207: byte j of a slot is v[W-1-8j : W-8-8j] of its register, for every slot of the map; the curve and COEF slots
are in the order of R220. -/
def Obligations.SlotsAreBigEndian : Prop :=
  ∀ (s : State) (j : Nat), j < s.slot.bytes →
    let S := s.slot.bytes
    let at_ := fun a : Nat => s.readByte (BitVec.ofNat 16 a)
    let byte := fun v : Nat => bigEndianByte s.slot.width v j
    at_ (0x1000 + j) = byte s.mod ∧ at_ (0x2000 + j) = byte s.scalar ∧
    (∀ i : FReg, at_ (0x8000 + i.val * S + j) = byte (s.F i)) ∧
    (∀ k c v, (k, c, v) ∈ [(0, 0, s.curve.ca.c0), (0, 1, s.curve.ca.c1), (1, 0, s.curve.cc.c0), (1, 1, s.curve.cc.c1),
        (2, 0, s.curve.ca24p.c0), (2, 1, s.curve.ca24p.c1), (3, 0, s.curve.ca24m.c0), (3, 1, s.curve.ca24m.c1),
        (4, 0, s.curve.cc24.c0), (4, 1, s.curve.cc24.c1)] → at_ (0x3000 + (2 * k + c) * S + j) = byte v) ∧
    (∀ k c v, (k, c, v) ∈ [(0, 0, s.coef.k0.c0), (0, 1, s.coef.k0.c1), (1, 0, s.coef.k1.c0), (1, 1, s.coef.k1.c1),
        (2, 0, s.coef.k2.c0), (2, 1, s.coef.k2.c1), (3, 0, s.coef.k3.c0), (3, 1, s.coef.k3.c1),
        (4, 0, s.coef.k4.c0), (4, 1, s.coef.k4.c1)] → at_ (0x4000 + (2 * k + c) * S + j) = byte v)

/-- R240, R1011: in a step in which no command completes, the first of the host's events is served and the others are left,
in their order; with none left the state is held, but for the latency counter. A cycle without a transaction changes nothing,
and the release of `rst` only its level. That a step is such a cycle is the model's choice (log entries 7, 8 and 11). -/
def Obligations.HostEventsAreServedInOrder : Prop :=
  (∀ (s : State), (∀ c, s.inflight = some c → completesNow c s.host = false) →
    let u := { s with inflight := s.inflight.map fun c => ⟨c.word, c.left - 1⟩ }
    (s.host = [] → step s = .next u) ∧
    ∀ e rest, s.host = e :: rest → step s = .next (serveEvent e { u with host := rest })) ∧
  (∀ s : State, serveEvent .idle s = s ∧ serveEvent .wait s = s ∧
    serveEvent .rstRelease s = { s with inReset := false }) ∧
  (∀ (e : HostEvent) (s : State), (serveEvent e s).host = s.host)
end

