-- ==== Sys2Proof/Laws/State.lean ====
section
/-! SUPPORT. What each named update of State leaves in each field, true by rfl, so that no proof unfolds a record update;
and the registers' read-after-write laws. -/

namespace Sys2Proof.Machine.State
set_option Elab.async false

@[simp] theorem setF_slot (s : State) (r : FReg) (v : Nat) : (s.setF r v).slot = s.slot := rfl
@[simp] theorem setF_f (s : State) (r : FReg) (v : Nat) : (s.setF r v).f = s.f.set r.val v := rfl
@[simp] theorem setF_mod (s : State) (r : FReg) (v : Nat) : (s.setF r v).mod = s.mod := rfl
@[simp] theorem setF_scalar (s : State) (r : FReg) (v : Nat) : (s.setF r v).scalar = s.scalar := rfl
@[simp] theorem setF_curve (s : State) (r : FReg) (v : Nat) : (s.setF r v).curve = s.curve := rfl
@[simp] theorem setF_coef (s : State) (r : FReg) (v : Nat) : (s.setF r v).coef = s.coef := rfl
@[simp] theorem setF_iso (s : State) (r : FReg) (v : Nat) : (s.setF r v).iso = s.iso := rfl
@[simp] theorem setF_flags (s : State) (r : FReg) (v : Nat) : (s.setF r v).flags = s.flags := rfl
@[simp] theorem setF_sel (s : State) (r : FReg) (v : Nat) : (s.setF r v).sel = s.sel := rfl
@[simp] theorem setF_nbits (s : State) (r : FReg) (v : Nat) : (s.setF r v).nbits = s.nbits := rfl
@[simp] theorem setF_irqEn (s : State) (r : FReg) (v : Nat) : (s.setF r v).irqEn = s.irqEn := rfl
@[simp] theorem setF_done (s : State) (r : FReg) (v : Nat) : (s.setF r v).done = s.done := rfl
@[simp] theorem setF_err (s : State) (r : FReg) (v : Nat) : (s.setF r v).err = s.err := rfl
@[simp] theorem setF_cfgOk (s : State) (r : FReg) (v : Nat) : (s.setF r v).cfgOk = s.cfgOk := rfl
@[simp] theorem setF_ovr (s : State) (r : FReg) (v : Nat) : (s.setF r v).ovr = s.ovr := rfl
@[simp] theorem setF_errcode (s : State) (r : FReg) (v : Nat) : (s.setF r v).errcode = s.errcode := rfl
@[simp] theorem setF_lastcmd (s : State) (r : FReg) (v : Nat) : (s.setF r v).lastcmd = s.lastcmd := rfl
@[simp] theorem setF_pbits (s : State) (r : FReg) (v : Nat) : (s.setF r v).pbits = s.pbits := rfl
@[simp] theorem setF_inflight (s : State) (r : FReg) (v : Nat) : (s.setF r v).inflight = s.inflight := rfl
@[simp] theorem setF_inReset (s : State) (r : FReg) (v : Nat) : (s.setF r v).inReset = s.inReset := rfl
@[simp] theorem setF_host (s : State) (r : FReg) (v : Nat) : (s.setF r v).host = s.host := rfl
@[simp] theorem setF_resp (s : State) (r : FReg) (v : Nat) : (s.setF r v).resp = s.resp := rfl
@[simp] theorem setF_resets (s : State) (r : FReg) (v : Nat) : (s.setF r v).resets = s.resets := rfl

@[simp] theorem setE_slot (s : State) (r : EReg) (v : Gfp2) : (s.setE r v).slot = s.slot := rfl
@[simp] theorem setE_mod (s : State) (r : EReg) (v : Gfp2) : (s.setE r v).mod = s.mod := rfl
@[simp] theorem setE_scalar (s : State) (r : EReg) (v : Gfp2) : (s.setE r v).scalar = s.scalar := rfl
@[simp] theorem setE_curve (s : State) (r : EReg) (v : Gfp2) : (s.setE r v).curve = s.curve := rfl
@[simp] theorem setE_coef (s : State) (r : EReg) (v : Gfp2) : (s.setE r v).coef = s.coef := rfl
@[simp] theorem setE_iso (s : State) (r : EReg) (v : Gfp2) : (s.setE r v).iso = s.iso := rfl
@[simp] theorem setE_flags (s : State) (r : EReg) (v : Gfp2) : (s.setE r v).flags = s.flags := rfl
@[simp] theorem setE_sel (s : State) (r : EReg) (v : Gfp2) : (s.setE r v).sel = s.sel := rfl
@[simp] theorem setE_nbits (s : State) (r : EReg) (v : Gfp2) : (s.setE r v).nbits = s.nbits := rfl
@[simp] theorem setE_irqEn (s : State) (r : EReg) (v : Gfp2) : (s.setE r v).irqEn = s.irqEn := rfl
@[simp] theorem setE_done (s : State) (r : EReg) (v : Gfp2) : (s.setE r v).done = s.done := rfl
@[simp] theorem setE_err (s : State) (r : EReg) (v : Gfp2) : (s.setE r v).err = s.err := rfl
@[simp] theorem setE_cfgOk (s : State) (r : EReg) (v : Gfp2) : (s.setE r v).cfgOk = s.cfgOk := rfl
@[simp] theorem setE_ovr (s : State) (r : EReg) (v : Gfp2) : (s.setE r v).ovr = s.ovr := rfl
@[simp] theorem setE_errcode (s : State) (r : EReg) (v : Gfp2) : (s.setE r v).errcode = s.errcode := rfl
@[simp] theorem setE_lastcmd (s : State) (r : EReg) (v : Gfp2) : (s.setE r v).lastcmd = s.lastcmd := rfl
@[simp] theorem setE_pbits (s : State) (r : EReg) (v : Gfp2) : (s.setE r v).pbits = s.pbits := rfl
@[simp] theorem setE_inflight (s : State) (r : EReg) (v : Gfp2) : (s.setE r v).inflight = s.inflight := rfl
@[simp] theorem setE_inReset (s : State) (r : EReg) (v : Gfp2) : (s.setE r v).inReset = s.inReset := rfl
@[simp] theorem setE_host (s : State) (r : EReg) (v : Gfp2) : (s.setE r v).host = s.host := rfl
@[simp] theorem setE_resp (s : State) (r : EReg) (v : Gfp2) : (s.setE r v).resp = s.resp := rfl
@[simp] theorem setE_resets (s : State) (r : EReg) (v : Gfp2) : (s.setE r v).resets = s.resets := rfl

@[simp] theorem setP_slot (s : State) (n : PReg) (v : Point) : (s.setP n v).slot = s.slot := rfl
@[simp] theorem setP_mod (s : State) (n : PReg) (v : Point) : (s.setP n v).mod = s.mod := rfl
@[simp] theorem setP_scalar (s : State) (n : PReg) (v : Point) : (s.setP n v).scalar = s.scalar := rfl
@[simp] theorem setP_curve (s : State) (n : PReg) (v : Point) : (s.setP n v).curve = s.curve := rfl
@[simp] theorem setP_coef (s : State) (n : PReg) (v : Point) : (s.setP n v).coef = s.coef := rfl
@[simp] theorem setP_iso (s : State) (n : PReg) (v : Point) : (s.setP n v).iso = s.iso := rfl
@[simp] theorem setP_flags (s : State) (n : PReg) (v : Point) : (s.setP n v).flags = s.flags := rfl
@[simp] theorem setP_sel (s : State) (n : PReg) (v : Point) : (s.setP n v).sel = s.sel := rfl
@[simp] theorem setP_nbits (s : State) (n : PReg) (v : Point) : (s.setP n v).nbits = s.nbits := rfl
@[simp] theorem setP_irqEn (s : State) (n : PReg) (v : Point) : (s.setP n v).irqEn = s.irqEn := rfl
@[simp] theorem setP_done (s : State) (n : PReg) (v : Point) : (s.setP n v).done = s.done := rfl
@[simp] theorem setP_err (s : State) (n : PReg) (v : Point) : (s.setP n v).err = s.err := rfl
@[simp] theorem setP_cfgOk (s : State) (n : PReg) (v : Point) : (s.setP n v).cfgOk = s.cfgOk := rfl
@[simp] theorem setP_ovr (s : State) (n : PReg) (v : Point) : (s.setP n v).ovr = s.ovr := rfl
@[simp] theorem setP_errcode (s : State) (n : PReg) (v : Point) : (s.setP n v).errcode = s.errcode := rfl
@[simp] theorem setP_lastcmd (s : State) (n : PReg) (v : Point) : (s.setP n v).lastcmd = s.lastcmd := rfl
@[simp] theorem setP_pbits (s : State) (n : PReg) (v : Point) : (s.setP n v).pbits = s.pbits := rfl
@[simp] theorem setP_inflight (s : State) (n : PReg) (v : Point) : (s.setP n v).inflight = s.inflight := rfl
@[simp] theorem setP_inReset (s : State) (n : PReg) (v : Point) : (s.setP n v).inReset = s.inReset := rfl
@[simp] theorem setP_host (s : State) (n : PReg) (v : Point) : (s.setP n v).host = s.host := rfl
@[simp] theorem setP_resp (s : State) (n : PReg) (v : Point) : (s.setP n v).resp = s.resp := rfl
@[simp] theorem setP_resets (s : State) (n : PReg) (v : Point) : (s.setP n v).resets = s.resets := rfl

@[simp] theorem setCurve_slot (s : State) (c : CurveRegs) : (s.setCurve c).slot = s.slot := rfl
@[simp] theorem setCurve_f (s : State) (c : CurveRegs) : (s.setCurve c).f = s.f := rfl
@[simp] theorem setCurve_mod (s : State) (c : CurveRegs) : (s.setCurve c).mod = s.mod := rfl
@[simp] theorem setCurve_scalar (s : State) (c : CurveRegs) : (s.setCurve c).scalar = s.scalar := rfl
@[simp] theorem setCurve_curve (s : State) (c : CurveRegs) : (s.setCurve c).curve = c := rfl
@[simp] theorem setCurve_coef (s : State) (c : CurveRegs) : (s.setCurve c).coef = s.coef := rfl
@[simp] theorem setCurve_iso (s : State) (c : CurveRegs) : (s.setCurve c).iso = s.iso := rfl
@[simp] theorem setCurve_flags (s : State) (c : CurveRegs) : (s.setCurve c).flags = s.flags := rfl
@[simp] theorem setCurve_sel (s : State) (c : CurveRegs) : (s.setCurve c).sel = s.sel := rfl
@[simp] theorem setCurve_nbits (s : State) (c : CurveRegs) : (s.setCurve c).nbits = s.nbits := rfl
@[simp] theorem setCurve_irqEn (s : State) (c : CurveRegs) : (s.setCurve c).irqEn = s.irqEn := rfl
@[simp] theorem setCurve_done (s : State) (c : CurveRegs) : (s.setCurve c).done = s.done := rfl
@[simp] theorem setCurve_err (s : State) (c : CurveRegs) : (s.setCurve c).err = s.err := rfl
@[simp] theorem setCurve_cfgOk (s : State) (c : CurveRegs) : (s.setCurve c).cfgOk = s.cfgOk := rfl
@[simp] theorem setCurve_ovr (s : State) (c : CurveRegs) : (s.setCurve c).ovr = s.ovr := rfl
@[simp] theorem setCurve_errcode (s : State) (c : CurveRegs) : (s.setCurve c).errcode = s.errcode := rfl
@[simp] theorem setCurve_lastcmd (s : State) (c : CurveRegs) : (s.setCurve c).lastcmd = s.lastcmd := rfl
@[simp] theorem setCurve_pbits (s : State) (c : CurveRegs) : (s.setCurve c).pbits = s.pbits := rfl
@[simp] theorem setCurve_inflight (s : State) (c : CurveRegs) : (s.setCurve c).inflight = s.inflight := rfl
@[simp] theorem setCurve_inReset (s : State) (c : CurveRegs) : (s.setCurve c).inReset = s.inReset := rfl
@[simp] theorem setCurve_host (s : State) (c : CurveRegs) : (s.setCurve c).host = s.host := rfl
@[simp] theorem setCurve_resp (s : State) (c : CurveRegs) : (s.setCurve c).resp = s.resp := rfl
@[simp] theorem setCurve_resets (s : State) (c : CurveRegs) : (s.setCurve c).resets = s.resets := rfl

@[simp] theorem setCoef_slot (s : State) (c : CoefRegs) : (s.setCoef c).slot = s.slot := rfl
@[simp] theorem setCoef_f (s : State) (c : CoefRegs) : (s.setCoef c).f = s.f := rfl
@[simp] theorem setCoef_mod (s : State) (c : CoefRegs) : (s.setCoef c).mod = s.mod := rfl
@[simp] theorem setCoef_scalar (s : State) (c : CoefRegs) : (s.setCoef c).scalar = s.scalar := rfl
@[simp] theorem setCoef_curve (s : State) (c : CoefRegs) : (s.setCoef c).curve = s.curve := rfl
@[simp] theorem setCoef_coef (s : State) (c : CoefRegs) : (s.setCoef c).coef = c := rfl
@[simp] theorem setCoef_iso (s : State) (c : CoefRegs) : (s.setCoef c).iso = s.iso := rfl
@[simp] theorem setCoef_flags (s : State) (c : CoefRegs) : (s.setCoef c).flags = s.flags := rfl
@[simp] theorem setCoef_sel (s : State) (c : CoefRegs) : (s.setCoef c).sel = s.sel := rfl
@[simp] theorem setCoef_nbits (s : State) (c : CoefRegs) : (s.setCoef c).nbits = s.nbits := rfl
@[simp] theorem setCoef_irqEn (s : State) (c : CoefRegs) : (s.setCoef c).irqEn = s.irqEn := rfl
@[simp] theorem setCoef_done (s : State) (c : CoefRegs) : (s.setCoef c).done = s.done := rfl
@[simp] theorem setCoef_err (s : State) (c : CoefRegs) : (s.setCoef c).err = s.err := rfl
@[simp] theorem setCoef_cfgOk (s : State) (c : CoefRegs) : (s.setCoef c).cfgOk = s.cfgOk := rfl
@[simp] theorem setCoef_ovr (s : State) (c : CoefRegs) : (s.setCoef c).ovr = s.ovr := rfl
@[simp] theorem setCoef_errcode (s : State) (c : CoefRegs) : (s.setCoef c).errcode = s.errcode := rfl
@[simp] theorem setCoef_lastcmd (s : State) (c : CoefRegs) : (s.setCoef c).lastcmd = s.lastcmd := rfl
@[simp] theorem setCoef_pbits (s : State) (c : CoefRegs) : (s.setCoef c).pbits = s.pbits := rfl
@[simp] theorem setCoef_inflight (s : State) (c : CoefRegs) : (s.setCoef c).inflight = s.inflight := rfl
@[simp] theorem setCoef_inReset (s : State) (c : CoefRegs) : (s.setCoef c).inReset = s.inReset := rfl
@[simp] theorem setCoef_host (s : State) (c : CoefRegs) : (s.setCoef c).host = s.host := rfl
@[simp] theorem setCoef_resp (s : State) (c : CoefRegs) : (s.setCoef c).resp = s.resp := rfl
@[simp] theorem setCoef_resets (s : State) (c : CoefRegs) : (s.setCoef c).resets = s.resets := rfl

@[simp] theorem setIso_slot (s : State) (i : Iso) : (s.setIso i).slot = s.slot := rfl
@[simp] theorem setIso_f (s : State) (i : Iso) : (s.setIso i).f = s.f := rfl
@[simp] theorem setIso_mod (s : State) (i : Iso) : (s.setIso i).mod = s.mod := rfl
@[simp] theorem setIso_scalar (s : State) (i : Iso) : (s.setIso i).scalar = s.scalar := rfl
@[simp] theorem setIso_curve (s : State) (i : Iso) : (s.setIso i).curve = s.curve := rfl
@[simp] theorem setIso_coef (s : State) (i : Iso) : (s.setIso i).coef = s.coef := rfl
@[simp] theorem setIso_iso (s : State) (i : Iso) : (s.setIso i).iso = i := rfl
@[simp] theorem setIso_flags (s : State) (i : Iso) : (s.setIso i).flags = s.flags := rfl
@[simp] theorem setIso_sel (s : State) (i : Iso) : (s.setIso i).sel = s.sel := rfl
@[simp] theorem setIso_nbits (s : State) (i : Iso) : (s.setIso i).nbits = s.nbits := rfl
@[simp] theorem setIso_irqEn (s : State) (i : Iso) : (s.setIso i).irqEn = s.irqEn := rfl
@[simp] theorem setIso_done (s : State) (i : Iso) : (s.setIso i).done = s.done := rfl
@[simp] theorem setIso_err (s : State) (i : Iso) : (s.setIso i).err = s.err := rfl
@[simp] theorem setIso_cfgOk (s : State) (i : Iso) : (s.setIso i).cfgOk = s.cfgOk := rfl
@[simp] theorem setIso_ovr (s : State) (i : Iso) : (s.setIso i).ovr = s.ovr := rfl
@[simp] theorem setIso_errcode (s : State) (i : Iso) : (s.setIso i).errcode = s.errcode := rfl
@[simp] theorem setIso_lastcmd (s : State) (i : Iso) : (s.setIso i).lastcmd = s.lastcmd := rfl
@[simp] theorem setIso_pbits (s : State) (i : Iso) : (s.setIso i).pbits = s.pbits := rfl
@[simp] theorem setIso_inflight (s : State) (i : Iso) : (s.setIso i).inflight = s.inflight := rfl
@[simp] theorem setIso_inReset (s : State) (i : Iso) : (s.setIso i).inReset = s.inReset := rfl
@[simp] theorem setIso_host (s : State) (i : Iso) : (s.setIso i).host = s.host := rfl
@[simp] theorem setIso_resp (s : State) (i : Iso) : (s.setIso i).resp = s.resp := rfl
@[simp] theorem setIso_resets (s : State) (i : Iso) : (s.setIso i).resets = s.resets := rfl

@[simp] theorem setFlags_slot (s : State) (g : Flags) : (s.setFlags g).slot = s.slot := rfl
@[simp] theorem setFlags_f (s : State) (g : Flags) : (s.setFlags g).f = s.f := rfl
@[simp] theorem setFlags_mod (s : State) (g : Flags) : (s.setFlags g).mod = s.mod := rfl
@[simp] theorem setFlags_scalar (s : State) (g : Flags) : (s.setFlags g).scalar = s.scalar := rfl
@[simp] theorem setFlags_curve (s : State) (g : Flags) : (s.setFlags g).curve = s.curve := rfl
@[simp] theorem setFlags_coef (s : State) (g : Flags) : (s.setFlags g).coef = s.coef := rfl
@[simp] theorem setFlags_iso (s : State) (g : Flags) : (s.setFlags g).iso = s.iso := rfl
@[simp] theorem setFlags_flags (s : State) (g : Flags) : (s.setFlags g).flags = g := rfl
@[simp] theorem setFlags_sel (s : State) (g : Flags) : (s.setFlags g).sel = s.sel := rfl
@[simp] theorem setFlags_nbits (s : State) (g : Flags) : (s.setFlags g).nbits = s.nbits := rfl
@[simp] theorem setFlags_irqEn (s : State) (g : Flags) : (s.setFlags g).irqEn = s.irqEn := rfl
@[simp] theorem setFlags_done (s : State) (g : Flags) : (s.setFlags g).done = s.done := rfl
@[simp] theorem setFlags_err (s : State) (g : Flags) : (s.setFlags g).err = s.err := rfl
@[simp] theorem setFlags_cfgOk (s : State) (g : Flags) : (s.setFlags g).cfgOk = s.cfgOk := rfl
@[simp] theorem setFlags_ovr (s : State) (g : Flags) : (s.setFlags g).ovr = s.ovr := rfl
@[simp] theorem setFlags_errcode (s : State) (g : Flags) : (s.setFlags g).errcode = s.errcode := rfl
@[simp] theorem setFlags_lastcmd (s : State) (g : Flags) : (s.setFlags g).lastcmd = s.lastcmd := rfl
@[simp] theorem setFlags_pbits (s : State) (g : Flags) : (s.setFlags g).pbits = s.pbits := rfl
@[simp] theorem setFlags_inflight (s : State) (g : Flags) : (s.setFlags g).inflight = s.inflight := rfl
@[simp] theorem setFlags_inReset (s : State) (g : Flags) : (s.setFlags g).inReset = s.inReset := rfl
@[simp] theorem setFlags_host (s : State) (g : Flags) : (s.setFlags g).host = s.host := rfl
@[simp] theorem setFlags_resp (s : State) (g : Flags) : (s.setFlags g).resp = s.resp := rfl
@[simp] theorem setFlags_resets (s : State) (g : Flags) : (s.setFlags g).resets = s.resets := rfl

@[simp] theorem setConfigured_slot (s : State) (b : Nat) : (s.setConfigured b).slot = s.slot := rfl
@[simp] theorem setConfigured_f (s : State) (b : Nat) : (s.setConfigured b).f = s.f := rfl
@[simp] theorem setConfigured_mod (s : State) (b : Nat) : (s.setConfigured b).mod = s.mod := rfl
@[simp] theorem setConfigured_scalar (s : State) (b : Nat) : (s.setConfigured b).scalar = s.scalar := rfl
@[simp] theorem setConfigured_curve (s : State) (b : Nat) : (s.setConfigured b).curve = s.curve := rfl
@[simp] theorem setConfigured_coef (s : State) (b : Nat) : (s.setConfigured b).coef = s.coef := rfl
@[simp] theorem setConfigured_iso (s : State) (b : Nat) : (s.setConfigured b).iso = s.iso := rfl
@[simp] theorem setConfigured_flags (s : State) (b : Nat) : (s.setConfigured b).flags = s.flags := rfl
@[simp] theorem setConfigured_sel (s : State) (b : Nat) : (s.setConfigured b).sel = s.sel := rfl
@[simp] theorem setConfigured_nbits (s : State) (b : Nat) : (s.setConfigured b).nbits = s.nbits := rfl
@[simp] theorem setConfigured_irqEn (s : State) (b : Nat) : (s.setConfigured b).irqEn = s.irqEn := rfl
@[simp] theorem setConfigured_done (s : State) (b : Nat) : (s.setConfigured b).done = s.done := rfl
@[simp] theorem setConfigured_err (s : State) (b : Nat) : (s.setConfigured b).err = s.err := rfl
@[simp] theorem setConfigured_cfgOk (s : State) (b : Nat) : (s.setConfigured b).cfgOk = true := rfl
@[simp] theorem setConfigured_ovr (s : State) (b : Nat) : (s.setConfigured b).ovr = s.ovr := rfl
@[simp] theorem setConfigured_errcode (s : State) (b : Nat) : (s.setConfigured b).errcode = s.errcode := rfl
@[simp] theorem setConfigured_lastcmd (s : State) (b : Nat) : (s.setConfigured b).lastcmd = s.lastcmd := rfl
@[simp] theorem setConfigured_pbits (s : State) (b : Nat) : (s.setConfigured b).pbits = b := rfl
@[simp] theorem setConfigured_inflight (s : State) (b : Nat) : (s.setConfigured b).inflight = s.inflight := rfl
@[simp] theorem setConfigured_inReset (s : State) (b : Nat) : (s.setConfigured b).inReset = s.inReset := rfl
@[simp] theorem setConfigured_host (s : State) (b : Nat) : (s.setConfigured b).host = s.host := rfl
@[simp] theorem setConfigured_resp (s : State) (b : Nat) : (s.setConfigured b).resp = s.resp := rfl
@[simp] theorem setConfigured_resets (s : State) (b : Nat) : (s.setConfigured b).resets = s.resets := rfl

@[simp] theorem noteInverse_slot (s : State) (n : Nat) : (s.noteInverse n).slot = s.slot := rfl
@[simp] theorem noteInverse_f (s : State) (n : Nat) : (s.noteInverse n).f = s.f := rfl
@[simp] theorem noteInverse_mod (s : State) (n : Nat) : (s.noteInverse n).mod = s.mod := rfl
@[simp] theorem noteInverse_scalar (s : State) (n : Nat) : (s.noteInverse n).scalar = s.scalar := rfl
@[simp] theorem noteInverse_curve (s : State) (n : Nat) : (s.noteInverse n).curve = s.curve := rfl
@[simp] theorem noteInverse_coef (s : State) (n : Nat) : (s.noteInverse n).coef = s.coef := rfl
@[simp] theorem noteInverse_iso (s : State) (n : Nat) : (s.noteInverse n).iso = s.iso := rfl
@[simp] theorem noteInverse_flags (s : State) (n : Nat) : (s.noteInverse n).flags = s.flags.noteInverse n := rfl
@[simp] theorem noteInverse_sel (s : State) (n : Nat) : (s.noteInverse n).sel = s.sel := rfl
@[simp] theorem noteInverse_nbits (s : State) (n : Nat) : (s.noteInverse n).nbits = s.nbits := rfl
@[simp] theorem noteInverse_irqEn (s : State) (n : Nat) : (s.noteInverse n).irqEn = s.irqEn := rfl
@[simp] theorem noteInverse_done (s : State) (n : Nat) : (s.noteInverse n).done = s.done := rfl
@[simp] theorem noteInverse_err (s : State) (n : Nat) : (s.noteInverse n).err = s.err := rfl
@[simp] theorem noteInverse_cfgOk (s : State) (n : Nat) : (s.noteInverse n).cfgOk = s.cfgOk := rfl
@[simp] theorem noteInverse_ovr (s : State) (n : Nat) : (s.noteInverse n).ovr = s.ovr := rfl
@[simp] theorem noteInverse_errcode (s : State) (n : Nat) : (s.noteInverse n).errcode = s.errcode := rfl
@[simp] theorem noteInverse_lastcmd (s : State) (n : Nat) : (s.noteInverse n).lastcmd = s.lastcmd := rfl
@[simp] theorem noteInverse_pbits (s : State) (n : Nat) : (s.noteInverse n).pbits = s.pbits := rfl
@[simp] theorem noteInverse_inflight (s : State) (n : Nat) : (s.noteInverse n).inflight = s.inflight := rfl
@[simp] theorem noteInverse_inReset (s : State) (n : Nat) : (s.noteInverse n).inReset = s.inReset := rfl
@[simp] theorem noteInverse_host (s : State) (n : Nat) : (s.noteInverse n).host = s.host := rfl
@[simp] theorem noteInverse_resp (s : State) (n : Nat) : (s.noteInverse n).resp = s.resp := rfl
@[simp] theorem noteInverse_resets (s : State) (n : Nat) : (s.noteInverse n).resets = s.resets := rfl

@[simp] theorem finish_slot (s : State) (c : ErrCode) : (s.finish c).slot = s.slot := rfl
@[simp] theorem finish_f (s : State) (c : ErrCode) : (s.finish c).f = s.f := rfl
@[simp] theorem finish_mod (s : State) (c : ErrCode) : (s.finish c).mod = s.mod := rfl
@[simp] theorem finish_scalar (s : State) (c : ErrCode) : (s.finish c).scalar = s.scalar := rfl
@[simp] theorem finish_curve (s : State) (c : ErrCode) : (s.finish c).curve = s.curve := rfl
@[simp] theorem finish_coef (s : State) (c : ErrCode) : (s.finish c).coef = s.coef := rfl
@[simp] theorem finish_iso (s : State) (c : ErrCode) : (s.finish c).iso = s.iso := rfl
@[simp] theorem finish_flags (s : State) (c : ErrCode) : (s.finish c).flags = s.flags := rfl
@[simp] theorem finish_sel (s : State) (c : ErrCode) : (s.finish c).sel = s.sel := rfl
@[simp] theorem finish_nbits (s : State) (c : ErrCode) : (s.finish c).nbits = s.nbits := rfl
@[simp] theorem finish_irqEn (s : State) (c : ErrCode) : (s.finish c).irqEn = s.irqEn := rfl
@[simp] theorem finish_done (s : State) (c : ErrCode) : (s.finish c).done = true := rfl
@[simp] theorem finish_err (s : State) (c : ErrCode) : (s.finish c).err = (s.err || decide (c ≠ .eNone)) := rfl
@[simp] theorem finish_cfgOk (s : State) (c : ErrCode) : (s.finish c).cfgOk = s.cfgOk := rfl
@[simp] theorem finish_ovr (s : State) (c : ErrCode) : (s.finish c).ovr = s.ovr := rfl
@[simp] theorem finish_errcode (s : State) (c : ErrCode) : (s.finish c).errcode = c := rfl
@[simp] theorem finish_lastcmd (s : State) (c : ErrCode) : (s.finish c).lastcmd = s.lastcmd := rfl
@[simp] theorem finish_pbits (s : State) (c : ErrCode) : (s.finish c).pbits = s.pbits := rfl
@[simp] theorem finish_inflight (s : State) (c : ErrCode) : (s.finish c).inflight = none := rfl
@[simp] theorem finish_inReset (s : State) (c : ErrCode) : (s.finish c).inReset = s.inReset := rfl
@[simp] theorem finish_host (s : State) (c : ErrCode) : (s.finish c).host = s.host := rfl
@[simp] theorem finish_resp (s : State) (c : ErrCode) : (s.finish c).resp = s.resp := rfl
@[simp] theorem finish_resets (s : State) (c : ErrCode) : (s.finish c).resets = s.resets := rfl

@[simp] theorem tick_slot (s : State) (c : InFlight) : (s.tick c).slot = s.slot := rfl
@[simp] theorem tick_f (s : State) (c : InFlight) : (s.tick c).f = s.f := rfl
@[simp] theorem tick_mod (s : State) (c : InFlight) : (s.tick c).mod = s.mod := rfl
@[simp] theorem tick_scalar (s : State) (c : InFlight) : (s.tick c).scalar = s.scalar := rfl
@[simp] theorem tick_curve (s : State) (c : InFlight) : (s.tick c).curve = s.curve := rfl
@[simp] theorem tick_coef (s : State) (c : InFlight) : (s.tick c).coef = s.coef := rfl
@[simp] theorem tick_iso (s : State) (c : InFlight) : (s.tick c).iso = s.iso := rfl
@[simp] theorem tick_flags (s : State) (c : InFlight) : (s.tick c).flags = s.flags := rfl
@[simp] theorem tick_sel (s : State) (c : InFlight) : (s.tick c).sel = s.sel := rfl
@[simp] theorem tick_nbits (s : State) (c : InFlight) : (s.tick c).nbits = s.nbits := rfl
@[simp] theorem tick_irqEn (s : State) (c : InFlight) : (s.tick c).irqEn = s.irqEn := rfl
@[simp] theorem tick_done (s : State) (c : InFlight) : (s.tick c).done = s.done := rfl
@[simp] theorem tick_err (s : State) (c : InFlight) : (s.tick c).err = s.err := rfl
@[simp] theorem tick_cfgOk (s : State) (c : InFlight) : (s.tick c).cfgOk = s.cfgOk := rfl
@[simp] theorem tick_ovr (s : State) (c : InFlight) : (s.tick c).ovr = s.ovr := rfl
@[simp] theorem tick_errcode (s : State) (c : InFlight) : (s.tick c).errcode = s.errcode := rfl
@[simp] theorem tick_lastcmd (s : State) (c : InFlight) : (s.tick c).lastcmd = s.lastcmd := rfl
@[simp] theorem tick_pbits (s : State) (c : InFlight) : (s.tick c).pbits = s.pbits := rfl
@[simp] theorem tick_inflight (s : State) (c : InFlight) : (s.tick c).inflight = some { c with left := c.left - 1 } := rfl
@[simp] theorem tick_inReset (s : State) (c : InFlight) : (s.tick c).inReset = s.inReset := rfl
@[simp] theorem tick_host (s : State) (c : InFlight) : (s.tick c).host = s.host := rfl
@[simp] theorem tick_resp (s : State) (c : InFlight) : (s.tick c).resp = s.resp := rfl
@[simp] theorem tick_resets (s : State) (c : InFlight) : (s.tick c).resets = s.resets := rfl

@[simp] theorem answer_slot (s : State) (r : BusResp) : (s.answer r).slot = s.slot := rfl
@[simp] theorem answer_f (s : State) (r : BusResp) : (s.answer r).f = s.f := rfl
@[simp] theorem answer_mod (s : State) (r : BusResp) : (s.answer r).mod = s.mod := rfl
@[simp] theorem answer_scalar (s : State) (r : BusResp) : (s.answer r).scalar = s.scalar := rfl
@[simp] theorem answer_curve (s : State) (r : BusResp) : (s.answer r).curve = s.curve := rfl
@[simp] theorem answer_coef (s : State) (r : BusResp) : (s.answer r).coef = s.coef := rfl
@[simp] theorem answer_iso (s : State) (r : BusResp) : (s.answer r).iso = s.iso := rfl
@[simp] theorem answer_flags (s : State) (r : BusResp) : (s.answer r).flags = s.flags := rfl
@[simp] theorem answer_sel (s : State) (r : BusResp) : (s.answer r).sel = s.sel := rfl
@[simp] theorem answer_nbits (s : State) (r : BusResp) : (s.answer r).nbits = s.nbits := rfl
@[simp] theorem answer_irqEn (s : State) (r : BusResp) : (s.answer r).irqEn = s.irqEn := rfl
@[simp] theorem answer_done (s : State) (r : BusResp) : (s.answer r).done = s.done := rfl
@[simp] theorem answer_err (s : State) (r : BusResp) : (s.answer r).err = s.err := rfl
@[simp] theorem answer_cfgOk (s : State) (r : BusResp) : (s.answer r).cfgOk = s.cfgOk := rfl
@[simp] theorem answer_ovr (s : State) (r : BusResp) : (s.answer r).ovr = s.ovr := rfl
@[simp] theorem answer_errcode (s : State) (r : BusResp) : (s.answer r).errcode = s.errcode := rfl
@[simp] theorem answer_lastcmd (s : State) (r : BusResp) : (s.answer r).lastcmd = s.lastcmd := rfl
@[simp] theorem answer_pbits (s : State) (r : BusResp) : (s.answer r).pbits = s.pbits := rfl
@[simp] theorem answer_inflight (s : State) (r : BusResp) : (s.answer r).inflight = s.inflight := rfl
@[simp] theorem answer_inReset (s : State) (r : BusResp) : (s.answer r).inReset = s.inReset := rfl
@[simp] theorem answer_host (s : State) (r : BusResp) : (s.answer r).host = s.host := rfl
@[simp] theorem answer_resp (s : State) (r : BusResp) : (s.answer r).resp = some r := rfl
@[simp] theorem answer_resets (s : State) (r : BusResp) : (s.answer r).resets = s.resets := rfl

@[simp] theorem accept_slot (s : State) (w : Word) (n : Nat) : (s.accept w n).slot = s.slot := rfl
@[simp] theorem accept_f (s : State) (w : Word) (n : Nat) : (s.accept w n).f = s.f := rfl
@[simp] theorem accept_mod (s : State) (w : Word) (n : Nat) : (s.accept w n).mod = s.mod := rfl
@[simp] theorem accept_scalar (s : State) (w : Word) (n : Nat) : (s.accept w n).scalar = s.scalar := rfl
@[simp] theorem accept_curve (s : State) (w : Word) (n : Nat) : (s.accept w n).curve = s.curve := rfl
@[simp] theorem accept_coef (s : State) (w : Word) (n : Nat) : (s.accept w n).coef = s.coef := rfl
@[simp] theorem accept_iso (s : State) (w : Word) (n : Nat) : (s.accept w n).iso = s.iso := rfl
@[simp] theorem accept_flags (s : State) (w : Word) (n : Nat) : (s.accept w n).flags = s.flags := rfl
@[simp] theorem accept_sel (s : State) (w : Word) (n : Nat) : (s.accept w n).sel = s.sel := rfl
@[simp] theorem accept_nbits (s : State) (w : Word) (n : Nat) : (s.accept w n).nbits = s.nbits := rfl
@[simp] theorem accept_irqEn (s : State) (w : Word) (n : Nat) : (s.accept w n).irqEn = s.irqEn := rfl
@[simp] theorem accept_done (s : State) (w : Word) (n : Nat) : (s.accept w n).done = false := rfl
@[simp] theorem accept_err (s : State) (w : Word) (n : Nat) : (s.accept w n).err = s.err := rfl
@[simp] theorem accept_cfgOk (s : State) (w : Word) (n : Nat) : (s.accept w n).cfgOk = s.cfgOk := rfl
@[simp] theorem accept_ovr (s : State) (w : Word) (n : Nat) : (s.accept w n).ovr = s.ovr := rfl
@[simp] theorem accept_errcode (s : State) (w : Word) (n : Nat) : (s.accept w n).errcode = s.errcode := rfl
@[simp] theorem accept_lastcmd (s : State) (w : Word) (n : Nat) : (s.accept w n).lastcmd = w := rfl
@[simp] theorem accept_pbits (s : State) (w : Word) (n : Nat) : (s.accept w n).pbits = s.pbits := rfl
@[simp] theorem accept_inflight (s : State) (w : Word) (n : Nat) : (s.accept w n).inflight = some ⟨w, n⟩ := rfl
@[simp] theorem accept_inReset (s : State) (w : Word) (n : Nat) : (s.accept w n).inReset = s.inReset := rfl
@[simp] theorem accept_host (s : State) (w : Word) (n : Nat) : (s.accept w n).host = s.host := rfl
@[simp] theorem accept_resp (s : State) (w : Word) (n : Nat) : (s.accept w n).resp = s.resp := rfl
@[simp] theorem accept_resets (s : State) (w : Word) (n : Nat) : (s.accept w n).resets = s.resets := rfl

@[simp] theorem setCurve_F (s : State) (c : CurveRegs) (x : FReg) : (s.setCurve c).F x = s.F x := rfl
@[simp] theorem setCurve_E (s : State) (c : CurveRegs) (x : EReg) : (s.setCurve c).E x = s.E x := rfl
@[simp] theorem setCurve_P (s : State) (c : CurveRegs) (x : PReg) : (s.setCurve c).P x = s.P x := rfl
@[simp] theorem setCoef_F (s : State) (c : CoefRegs) (x : FReg) : (s.setCoef c).F x = s.F x := rfl
@[simp] theorem setCoef_E (s : State) (c : CoefRegs) (x : EReg) : (s.setCoef c).E x = s.E x := rfl
@[simp] theorem setCoef_P (s : State) (c : CoefRegs) (x : PReg) : (s.setCoef c).P x = s.P x := rfl
@[simp] theorem setIso_F (s : State) (i : Iso) (x : FReg) : (s.setIso i).F x = s.F x := rfl
@[simp] theorem setIso_E (s : State) (i : Iso) (x : EReg) : (s.setIso i).E x = s.E x := rfl
@[simp] theorem setIso_P (s : State) (i : Iso) (x : PReg) : (s.setIso i).P x = s.P x := rfl
@[simp] theorem setFlags_F (s : State) (g : Flags) (x : FReg) : (s.setFlags g).F x = s.F x := rfl
@[simp] theorem setFlags_E (s : State) (g : Flags) (x : EReg) : (s.setFlags g).E x = s.E x := rfl
@[simp] theorem setFlags_P (s : State) (g : Flags) (x : PReg) : (s.setFlags g).P x = s.P x := rfl
@[simp] theorem setConfigured_F (s : State) (b : Nat) (x : FReg) : (s.setConfigured b).F x = s.F x := rfl
@[simp] theorem setConfigured_E (s : State) (b : Nat) (x : EReg) : (s.setConfigured b).E x = s.E x := rfl
@[simp] theorem setConfigured_P (s : State) (b : Nat) (x : PReg) : (s.setConfigured b).P x = s.P x := rfl
@[simp] theorem noteInverse_F (s : State) (n : Nat) (x : FReg) : (s.noteInverse n).F x = s.F x := rfl
@[simp] theorem noteInverse_E (s : State) (n : Nat) (x : EReg) : (s.noteInverse n).E x = s.E x := rfl
@[simp] theorem noteInverse_P (s : State) (n : Nat) (x : PReg) : (s.noteInverse n).P x = s.P x := rfl
@[simp] theorem finish_F (s : State) (c : ErrCode) (x : FReg) : (s.finish c).F x = s.F x := rfl
@[simp] theorem finish_E (s : State) (c : ErrCode) (x : EReg) : (s.finish c).E x = s.E x := rfl
@[simp] theorem finish_P (s : State) (c : ErrCode) (x : PReg) : (s.finish c).P x = s.P x := rfl
@[simp] theorem tick_F (s : State) (c : InFlight) (x : FReg) : (s.tick c).F x = s.F x := rfl
@[simp] theorem tick_E (s : State) (c : InFlight) (x : EReg) : (s.tick c).E x = s.E x := rfl
@[simp] theorem tick_P (s : State) (c : InFlight) (x : PReg) : (s.tick c).P x = s.P x := rfl
@[simp] theorem answer_F (s : State) (r : BusResp) (x : FReg) : (s.answer r).F x = s.F x := rfl
@[simp] theorem answer_E (s : State) (r : BusResp) (x : EReg) : (s.answer r).E x = s.E x := rfl
@[simp] theorem answer_P (s : State) (r : BusResp) (x : PReg) : (s.answer r).P x = s.P x := rfl
@[simp] theorem accept_F (s : State) (w : Word) (n : Nat) (x : FReg) : (s.accept w n).F x = s.F x := rfl
@[simp] theorem accept_E (s : State) (w : Word) (n : Nat) (x : EReg) : (s.accept w n).E x = s.E x := rfl
@[simp] theorem accept_P (s : State) (w : Word) (n : Nat) (x : PReg) : (s.accept w n).P x = s.P x := rfl

/-- A read of the register just written gives the value written. -/
@[simp] theorem setF_F_same (s : State) (r : FReg) (v : Nat) : (s.setF r v).F r = v := by
  simp [setF, F]

/-- A write leaves every other register alone. -/
theorem setF_F_ne (s : State) {r x : FReg} (v : Nat) (h : x ≠ r) : (s.setF r v).F x = s.F x := by
  have hv : r.val ≠ x.val := fun e => h (Fin.ext e.symm)
  simp [setF, F, hv]

/-- Both laws at once. -/
theorem setF_F (s : State) (r x : FReg) (v : Nat) : (s.setF r v).F x = if x = r then v else s.F x := by
  by_cases h : x = r
  · subst h; simp
  · simp [h, setF_F_ne s v h]

/-- Writing back what a register holds changes nothing. -/
@[simp] theorem setF_self (s : State) (r : FReg) : s.setF r (s.F r) = s := by
  cases s; simp [setF, F]

/-- The two components of E[r] are different F registers. -/
theorem lo_ne_hi (r : EReg) : EReg.lo r ≠ EReg.hi r := by
  simp [EReg.lo, EReg.hi, Fin.ext_iff]

/-- A read of the GF(p^2) register just written gives the value written. -/
@[simp] theorem setE_E_same (s : State) (r : EReg) (v : Gfp2) : (s.setE r v).E r = v := by
  simp [setE, E, setF_F_ne _ _ (lo_ne_hi r)]

/-- A write of E[r] leaves every F register but its two components alone. -/
theorem setE_F_ne (s : State) {r : EReg} {x : FReg} (v : Gfp2) (hl : x ≠ EReg.lo r) (hh : x ≠ EReg.hi r) :
    (s.setE r v).F x = s.F x := by
  simp [setE, setF_F_ne _ _ hl, setF_F_ne _ _ hh]

/-- A write of E[r] leaves every other GF(p^2) register alone. -/
theorem setE_E_ne (s : State) {r x : EReg} (v : Gfp2) (h : x ≠ r) : (s.setE r v).E x = s.E x := by
  have hv : x.val ≠ r.val := fun e => h (Fin.ext e)
  have h1 : EReg.lo x ≠ EReg.lo r := by simp [EReg.lo, Fin.ext_iff]; omega
  have h2 : EReg.lo x ≠ EReg.hi r := by simp [EReg.lo, EReg.hi, Fin.ext_iff]; omega
  have h3 : EReg.hi x ≠ EReg.lo r := by simp [EReg.lo, EReg.hi, Fin.ext_iff]; omega
  have h4 : EReg.hi x ≠ EReg.hi r := by simp [EReg.hi, Fin.ext_iff]; omega
  simp [E, setE_F_ne _ _ h1 h2, setE_F_ne _ _ h3 h4]

/-- Writing back what a GF(p^2) register holds changes nothing. -/
@[simp] theorem setE_self (s : State) (r : EReg) : s.setE r (s.E r) = s := by
  simp [setE, E]

/-- The X and the Z of P[n] are different GF(p^2) registers. -/
theorem x_ne_z (n : PReg) : PReg.x n ≠ PReg.z n := by
  simp [PReg.x, PReg.z, Fin.ext_iff]

/-- A read of the point register just written gives the point written. -/
@[simp] theorem setP_P_same (s : State) (n : PReg) (v : Point) : (s.setP n v).P n = v := by
  simp [setP, P, setE_E_ne _ _ (x_ne_z n)]

/-- A write of P[n] leaves every GF(p^2) register but its X and Z alone. -/
theorem setP_E_ne (s : State) {n : PReg} {x : EReg} (v : Point) (hx : x ≠ PReg.x n) (hz : x ≠ PReg.z n) :
    (s.setP n v).E x = s.E x := by
  simp [setP, setE_E_ne _ _ hx, setE_E_ne _ _ hz]

end Sys2Proof.Machine.State
end

