-- ==== Sys2Proof/Laws/Bus.lean ====
section
/-! SUPPORT. The laws of a slot's words (20_memory.md R207, R211): a word written is read back, the others keep their
value, and the register stays within its width; the bus's way to the CSRs; and the three cases of a step. -/

namespace Sys2Proof.Machine

/-- "Every write followed by a read returns the words written" (R211). -/
theorem slotWord_slotPut_same (w v k : Nat) (d : Word) : slotWord w (slotPut w v k d) k = d := by
  unfold slotWord slotPut
  generalize w - 32 - 32 * k = n
  have hlow : v % 2 ^ n < 2 ^ n := Nat.mod_lt _ (by positivity)
  have h : (v / 2 ^ (n + 32) * 2 ^ (n + 32) + d.toNat * 2 ^ n + v % 2 ^ n) / 2 ^ n
      = v / 2 ^ (n + 32) * 2 ^ 32 + d.toNat := by
    have e : v / 2 ^ (n + 32) * 2 ^ (n + 32) + d.toNat * 2 ^ n + v % 2 ^ n
        = v % 2 ^ n + 2 ^ n * (v / 2 ^ (n + 32) * 2 ^ 32 + d.toNat) := by ring
    rw [e, Nat.add_mul_div_left _ _ (by positivity), Nat.div_eq_of_lt hlow, Nat.zero_add]
  rw [h]
  apply BitVec.eq_of_toNat_eq
  simp [Nat.mod_eq_of_lt d.isLt]

/-- A slot-word write keeps a register within its width, for a word k of the slot. -/
theorem slotPut_lt {w v k : Nat} (d : Word) (hv : v < 2 ^ w) (hk : 32 * k + 32 ≤ w) : slotPut w v k d < 2 ^ w := by
  unfold slotPut
  obtain ⟨n, hn⟩ : ∃ n, w - 32 - 32 * k = n := ⟨_, rfl⟩
  obtain ⟨j, hj⟩ : ∃ j, w = n + 32 + j := ⟨w - (n + 32), by omega⟩
  simp only [hn]
  have hlow : v % 2 ^ n < 2 ^ n := Nat.mod_lt _ (by positivity)
  have hq : v / 2 ^ (n + 32) < 2 ^ j := by
    rw [Nat.div_lt_iff_lt_mul (by positivity), ← pow_add]
    rw [hj] at hv; rwa [Nat.add_comm j]
  have hd : d.toNat * 2 ^ n + v % 2 ^ n < 2 ^ (n + 32) := by
    have := d.isLt
    have h1 : (d.toNat + 1) * 2 ^ n ≤ 2 ^ 32 * 2 ^ n := Nat.mul_le_mul_right _ this
    have h2 : (2 : Nat) ^ (n + 32) = 2 ^ 32 * 2 ^ n := by rw [pow_add]; ring
    rw [h2]; nlinarith
  have hm : (v / 2 ^ (n + 32) + 1) * 2 ^ (n + 32) ≤ 2 ^ j * 2 ^ (n + 32) := Nat.mul_le_mul_right _ hq
  have he : (2 : Nat) ^ w = 2 ^ j * 2 ^ (n + 32) := by rw [← pow_add, hj]; congr 1; omega
  rw [he]; nlinarith

/-- A write that gets no bus error has the register map's effect, and one that gets it has none (R211, R212). -/
theorem memWrite_cases (s : State) (addr : HostAddr) (kind : AccessKind) (lanes : BitVec 4) (v : Word) :
    (s.writeResp addr kind lanes = .written ∧ s.memWrite addr kind lanes v = s.poke v (s.target addr)) ∨
    (s.writeResp addr kind lanes = .error ∧ s.memWrite addr kind lanes v = s) := by
  have h : s.writeResp addr kind lanes = .written ∨ s.writeResp addr kind lanes = .error := by
    unfold State.writeResp; repeat' split
    all_goals simp
  rcases h with h | h <;> simp [State.memWrite, h]

/-- A write is answered `written` exactly when `rst` is released, the access is legal and the busy rule lets it through. -/
theorem writeResp_written_iff (s : State) (addr : HostAddr) (kind : AccessKind) (lanes : BitVec 4) :
    s.writeResp addr kind lanes = .written ↔
      s.inReset = false ∧ legalAccess addr kind lanes = true ∧ busyBlocksWrite s (s.target addr) = false := by
  unfold State.writeResp
  cases s.inReset <;> cases legalAccess addr kind lanes <;> cases busyBlocksWrite s (s.target addr) <;> simp

/-- A legal word write to a CSR that the busy rule lets through is that CSR's write (R211). -/
theorem memWrite_csr {s : State} {addr : HostAddr} (v : Word) (hr : s.inReset = false) (ha : addr.toNat % 4 = 0)
    (hc : addr.toNat < 0x100) (hb : (s.busy && idleOnlyCsr addr.toNat) = false) :
    s.memWrite addr .word 0xF#4 v = s.writeCsr addr.toNat v := by
  simp [State.memWrite, State.writeResp, hr, legalAccess, ha, busyBlocksWrite, State.target, targetOf, hc, hb, State.poke]

/-- A legal word read of a CSR gives its word, busy or not (R210). -/
theorem memRead_csr {s : State} {addr : HostAddr} (hr : s.inReset = false) (ha : addr.toNat % 4 = 0)
    (hc : addr.toNat < 0x100) : s.memRead addr .word = .data (s.readCsr addr.toNat) := by
  simp [State.memRead, hr, legalAccess, ha, busyBlocksRead, State.target, targetOf, hc, Target.isSlot, State.peek]

/-- With nothing in flight a step is a cycle of the host's side. -/
theorem step_of_idle {s : State} (h : s.inflight = none) : step s = .next (serveCycle s) := by simp [step, h]

/-- A step in which the command in flight completes is the run of its word (R1010). -/
theorem step_of_completes {s : State} {c : InFlight} (h : s.inflight = some c) (hc : completesNow c s.host = true) :
    step s = runWord c.word s := by simp [step, h, hc]

/-- A step that leaves the command in flight counts its latency and serves the host (R125). -/
theorem step_of_waits {s : State} {c : InFlight} (h : s.inflight = some c) (hc : completesNow c s.host = false) :
    step s = .next (serveCycle (s.tick c)) := by simp [step, h, hc]

end Sys2Proof.Machine
end

