-- ==== Sys2Proof/Laws/Encoding.lean ====
section
/-! SUPPORT. The fields of an encoded word, and the kinds' round trips. -/

namespace Sys2Proof

/-- AND goes through the fields of a word of format R. -/
theorem encodeR_and (op op' : BitVec 8) (d d' a a' b b' c c' : BitVec 6) :
    encodeR op d a b c &&& encodeR op' d' a' b' c' = encodeR (op &&& op') (d &&& d') (a &&& a') (b &&& b') (c &&& c') := by
  show (op ++ d ++ a ++ b ++ c : BitVec (8 + 6 + 6 + 6 + 6)) &&& (op' ++ d' ++ a' ++ b' ++ c') = _
  simp only [BitVec.and_append]; rfl

/-- AND goes through the fields of a word of format I. -/
theorem encodeI_and (op op' : BitVec 8) (d d' : BitVec 6) (i i' : Imm18) :
    encodeI op d i &&& encodeI op' d' i' = encodeI (op &&& op') (d &&& d') (i &&& i') := by
  show (op ++ d ++ i : BitVec (8 + 6 + 18)) &&& (op' ++ d' ++ i') = _
  simp only [BitVec.and_append]; rfl

@[simp] theorem opField_encodeR (op : BitVec 8) (d a b c : BitVec 6) : opField (encodeR op d a b c) = op := by
  apply BitVec.eq_of_getLsbD_eq
  intro i h
  simp only [opField, encodeR, BitVec.getLsbD_extractLsb', BitVec.getLsbD_append]
  simp [h, show ¬ (24 + i < 6) by omega, show ¬ (24 + i - 6 < 6) by omega, show ¬ (24 + i - 6 - 6 < 6) by omega,
    show ¬ (24 + i - 6 - 6 - 6 < 6) by omega, show 24 + i - 6 - 6 - 6 - 6 = i by omega]

@[simp] theorem dField_encodeR (op : BitVec 8) (d a b c : BitVec 6) : dField (encodeR op d a b c) = d := by
  apply BitVec.eq_of_getLsbD_eq
  intro i h
  simp only [dField, encodeR, BitVec.getLsbD_extractLsb', BitVec.getLsbD_append]
  simp [h, show ¬ (18 + i < 6) by omega, show ¬ (18 + i - 6 < 6) by omega, show ¬ (18 + i - 6 - 6 < 6) by omega,
    show 18 + i - 6 - 6 - 6 = i by omega]

@[simp] theorem aField_encodeR (op : BitVec 8) (d a b c : BitVec 6) : aField (encodeR op d a b c) = a := by
  apply BitVec.eq_of_getLsbD_eq
  intro i h
  simp only [aField, encodeR, BitVec.getLsbD_extractLsb', BitVec.getLsbD_append]
  simp [h, show ¬ (12 + i < 6) by omega, show ¬ (12 + i - 6 < 6) by omega, show 12 + i - 6 - 6 = i by omega]

@[simp] theorem bField_encodeR (op : BitVec 8) (d a b c : BitVec 6) : bField (encodeR op d a b c) = b := by
  apply BitVec.eq_of_getLsbD_eq
  intro i h
  simp only [bField, encodeR, BitVec.getLsbD_extractLsb', BitVec.getLsbD_append]
  simp [h, show ¬ (6 + i < 6) by omega, show 6 + i - 6 = i by omega]

@[simp] theorem cField_encodeR (op : BitVec 8) (d a b c : BitVec 6) : cField (encodeR op d a b c) = c := by
  apply BitVec.eq_of_getLsbD_eq
  intro i h
  simp only [cField, encodeR, BitVec.getLsbD_extractLsb', BitVec.getLsbD_append]
  simp [h]

@[simp] theorem opField_encodeI (op : BitVec 8) (d : BitVec 6) (imm : Imm18) : opField (encodeI op d imm) = op := by
  apply BitVec.eq_of_getLsbD_eq
  intro i h
  simp only [opField, encodeI, BitVec.getLsbD_extractLsb', BitVec.getLsbD_append]
  simp [h, show ¬ (24 + i < 18) by omega, show ¬ (24 + i - 18 < 6) by omega, show 24 + i - 18 - 6 = i by omega]

@[simp] theorem dField_encodeI (op : BitVec 8) (d : BitVec 6) (imm : Imm18) : dField (encodeI op d imm) = d := by
  apply BitVec.eq_of_getLsbD_eq
  intro i h
  simp only [dField, encodeI, BitVec.getLsbD_extractLsb', BitVec.getLsbD_append]
  simp [h, show ¬ (18 + i < 18) by omega, show 18 + i - 18 = i by omega]

@[simp] theorem immField_encodeI (op : BitVec 8) (d : BitVec 6) (imm : Imm18) : immField (encodeI op d imm) = imm := by
  apply BitVec.eq_of_getLsbD_eq
  intro i h
  simp only [immField, encodeI, BitVec.getLsbD_extractLsb', BitVec.getLsbD_append]
  simp [h]

/-! Each kind of field gives back the operand it was made from. -/

@[simp] theorem asF_ofF (r : FReg) : asF (ofF r) = r := by
  have := r.isLt
  simp [asF, ofF]

@[simp] theorem asE_ofE (r : EReg) : asE (ofE r) = some r := by
  have := r.isLt
  have h : r.val % 64 = r.val := Nat.mod_eq_of_lt (by omega)
  simp [asE, ofE, h]

@[simp] theorem asP_ofP (r : PReg) : asP (ofP r) = some r := by
  have := r.isLt
  have h : r.val % 64 = r.val := Nat.mod_eq_of_lt (by omega)
  simp [asP, ofP, h]

@[simp] theorem isZero_zero6 : isZero zero6 = some () := rfl
theorem zero6_eq : zero6 = 0#6 := rfl
@[simp] theorem zero6_and (x : BitVec 6) : zero6 &&& x = 0#6 := by simp [zero6_eq]

/-- An e field has bit 5 clear (R301). -/
@[simp] theorem ofE_and_bit5 (r : EReg) : ofE r &&& 0x20#6 = 0#6 := by revert r; decide
/-- An n field has bits 5:4 clear (R301). -/
@[simp] theorem ofP_and_bits54 (r : PReg) : ofP r &&& 0x30#6 = 0#6 := by revert r; decide

end Sys2Proof
end

