-- ==== Sys2Proof/Laws/Field.lean ====
section
/-! SUPPORT. One law per arithmetic primitive: its result lies in [0, p), and it is the ring operation of ZMod p; and the
fast exponentiation is the power. -/

namespace Sys2Proof.Machine

theorem addp_lt {p : Nat} (h : 0 < p) (a b : Nat) : addp p a b < p := Nat.mod_lt _ h
theorem subp_lt {p : Nat} (h : 0 < p) (a b : Nat) : subp p a b < p := Nat.mod_lt _ h
theorem mulp_lt {p : Nat} (h : 0 < p) (a b : Nat) : mulp p a b < p := Nat.mod_lt _ h
theorem negp_lt {p : Nat} (h : 0 < p) (a : Nat) : negp p a < p := Nat.mod_lt _ h
theorem kp_lt {p : Nat} (h : 0 < p) (c : Nat) : kp p c < p := Nat.mod_lt _ h

theorem div2p_lt {p x : Nat} (h : x < p) : div2p p x < p := by
  unfold div2p
  split <;> omega

@[simp] theorem cast_addp (p a b : Nat) : ((addp p a b : Nat) : ZMod p) = a + b := by simp [addp]
@[simp] theorem cast_mulp (p a b : Nat) : ((mulp p a b : Nat) : ZMod p) = a * b := by simp [mulp]
@[simp] theorem cast_kp (p c : Nat) : ((kp p c : Nat) : ZMod p) = c := by simp [kp]

theorem cast_negp {p : Nat} (h : 0 < p) (a : Nat) : ((negp p a : Nat) : ZMod p) = -a := by
  have : a % p ≤ p := (Nat.mod_lt a h).le
  simp [negp, Nat.cast_sub this]

theorem cast_subp {p : Nat} (h : 0 < p) (a b : Nat) : ((subp p a b : Nat) : ZMod p) = a - b := by
  have : b % p ≤ p := (Nat.mod_lt b h).le
  simp [subp, Nat.cast_sub this, sub_eq_add_neg]

/-- The exponentiation over n bits is the power, for an exponent below 2^n. -/
theorem powModBits_eq (m b : Nat) : ∀ n e, e < 2 ^ n → powModBits m b n e = b ^ e % m := by
  intro n
  induction n with
  | zero =>
    intro e h
    have : e = 0 := by simpa using h
    subst this; simp [powModBits]
  | succ n ih =>
    intro e h
    have hd : e / 2 < 2 ^ n := by rw [pow_succ] at h; omega
    unfold powModBits
    simp only [ih _ hd]
    split
    · have he : e = e / 2 + e / 2 + 1 := by omega
      conv_rhs => rw [he, pow_succ, pow_add]
      simp [Nat.mul_mod]
    · have he : e = e / 2 + e / 2 := by omega
      conv_rhs => rw [he, pow_add]
      simp [Nat.mul_mod]

/-- `bitlength(v)` bounds v. -/
theorem lt_two_pow_bitlength (v : Nat) : v < 2 ^ bitlength v := by
  unfold bitlength
  split
  · simp_all
  · exact Nat.lt_log2_self

/-- The fixed exponentiation of R402 and R600 is the power. -/
theorem powMod_eq (m b e : Nat) : powMod m b e = b ^ e % m := powModBits_eq m b _ e (lt_two_pow_bitlength e)

/-- An accepted modulus is at least 3. -/
theorem three_le_of_acceptMod {w m : Nat} (h : acceptMod w m = true) : 3 ≤ m := by
  simp [acceptMod] at h
  omega

/-- An accepted modulus fits the registers of its instance with a bit to spare. -/
theorem lt_of_acceptMod {w m : Nat} (h : acceptMod w m = true) : m < 2 ^ (w - 1) := by
  simp only [acceptMod, Bool.and_eq_true, decide_eq_true_eq] at h
  exact lt_of_lt_of_le (lt_two_pow_bitlength m) (Nat.pow_le_pow_right (by decide) h.2.1)

end Sys2Proof.Machine
end

