-- ==== Sys2Proof/Laws/Ops.lean ====
section
/-! SUPPORT. What the common execution frame can do, said once: a command completes with the code of its first failing
check and changes nothing else, or with E_NONE after its effect. -/

namespace Sys2Proof.Machine

/-- When every check passes the command's effect is committed and it completes without error. -/
theorem command_of_passed {c : Checks} {effect s : State} (h : c.verdict s = .eNone) :
    command c effect s = .next (effect.finish .eNone) := by
  simp [command, h]

/-- When a check fails the command completes with its code, and the effect is not committed. -/
theorem command_of_failed {c : Checks} {effect s : State} (h : c.verdict s ≠ .eNone) :
    command c effect s = .next (s.finish (c.verdict s)) := by
  unfold command
  generalize c.verdict s = v at *
  cases v <;> simp_all

/-- The two ways a command ends: there is no third. -/
theorem command_cases (c : Checks) (effect s : State) :
    (c.verdict s = .eNone ∧ command c effect s = .next (effect.finish .eNone)) ∨
    (c.verdict s ≠ .eNone ∧ command c effect s = .next (s.finish (c.verdict s))) := by
  by_cases h : c.verdict s = .eNone
  · exact .inl ⟨h, command_of_passed h⟩
  · exact .inr ⟨h, command_of_failed h⟩

/-- The same, read backwards from the next state. -/
theorem command_next {c : Checks} {effect s t : State} (h : command c effect s = .next t) :
    (c.verdict s = .eNone ∧ t = effect.finish .eNone) ∨
    (c.verdict s ≠ .eNone ∧ t = s.finish (c.verdict s)) := by
  obtain ⟨hv, he⟩ | ⟨hv, he⟩ := command_cases c effect s <;> rw [he] at h <;> cases h
  · exact .inl ⟨hv, rfl⟩
  · exact .inr ⟨hv, rfl⟩

/-- One check of the frame's chain passes and the rest does. -/
theorem check_eNone_iff {b : Bool} {e x : ErrCode} (h : e ≠ .eNone) :
    (if b = true then e else x) = .eNone ↔ b = false ∧ x = .eNone := by
  cases b <;> simp [h]

/-- The tag check passes when ISO.TAG is among the tags needed, if any are. -/
theorem wrongTag_false_iff (tags : Option (List IsoTag)) (tag : IsoTag) :
    wrongTag tags tag = false ↔ ∀ l, tags = some l → tag ∈ l := by
  cases tags <;> simp [wrongTag]

/-- When every check of the frame passes. -/
theorem verdict_eNone_iff (c : Checks) (s : State) :
    c.verdict s = .eNone ↔
      c.illegal = false ∧ (c.needsCfg = true → s.cfgOk = true) ∧ c.aliased = false ∧
      (c.usesNbits = true → s.nbits.toNat ≤ s.slot.width) ∧
      (c.usesSel = true → s.sel = 0#32 ∨ s.sel = 1#32) ∧
      (∀ l, c.tags = some l → s.iso.tag ∈ l) ∧
      (∀ r ∈ c.sources, s.F r < s.mod) ∧ c.badmod = false := by
  unfold Checks.verdict
  rw [check_eNone_iff (by decide), check_eNone_iff (by decide), check_eNone_iff (by decide), check_eNone_iff (by decide),
    check_eNone_iff (by decide), check_eNone_iff (by decide), check_eNone_iff (by decide), check_eNone_iff (by decide)]
  simp only [wrongTag_false_iff]
  simp [Decidable.imp_iff_not_or]

/-- A completion with E_NONE on a state whose effect leaves ERR alone: exactly the record of R1010. -/
theorem finish_eNone (s : State) :
    s.finish .eNone = { s with errcode := .eNone, done := true, inflight := none } := by
  simp [State.finish]

/-- A completion with an error: exactly the record of R1010. -/
theorem finish_error (s : State) {c : ErrCode} (h : c ≠ .eNone) :
    s.finish c = { s with errcode := c, err := true, done := true, inflight := none } := by
  simp [State.finish, h]

end Sys2Proof.Machine
end

