-- ==== Sys2Proof/Laws/PerInstr.lean ====
section
/-! SUPPORT. For every command: its row of the opcode map (30_encoding.md R304), and that its word has the bits that the
row's match and mask fix. -/

namespace Sys2Proof.Laws.EncodingRow
set_option Elab.async false

/-- The command's row of R304. -/
def row : Instr → OpcodeRow
  | .nop => ⟨"NOP", 0x00000000#32, 0xFFFFFFFF#32⟩
  | .config => ⟨"CONFIG", 0x01000000#32, 0xFFFFFFFF#32⟩
  | .fpadd _ _ _ => ⟨"FPADD", 0x10000000#32, 0xFF00003F#32⟩
  | .fpsub _ _ _ => ⟨"FPSUB", 0x11000000#32, 0xFF00003F#32⟩
  | .fpmul _ _ _ => ⟨"FPMUL", 0x12000000#32, 0xFF00003F#32⟩
  | .fpsqr _ _ => ⟨"FPSQR", 0x13000000#32, 0xFF000FFF#32⟩
  | .fpneg _ _ => ⟨"FPNEG", 0x14000000#32, 0xFF000FFF#32⟩
  | .fpdiv2 _ _ => ⟨"FPDIV2", 0x15000000#32, 0xFF000FFF#32⟩
  | .fpmov _ _ => ⟨"FPMOV", 0x16000000#32, 0xFF000FFF#32⟩
  | .fpseti _ _ => ⟨"FPSETI", 0x17000000#32, 0xFF000000#32⟩
  | .fpcswap _ _ => ⟨"FPCSWAP", 0x18000000#32, 0xFFFC003F#32⟩
  | .fpcsel _ _ _ => ⟨"FPCSEL", 0x19000000#32, 0xFF00003F#32⟩
  | .fptest _ _ => ⟨"FPTEST", 0x1A000000#32, 0xFFFC003F#32⟩
  | .fp2add _ _ _ => ⟨"FP2ADD", 0x20000000#32, 0xFF82083F#32⟩
  | .fp2sub _ _ _ => ⟨"FP2SUB", 0x21000000#32, 0xFF82083F#32⟩
  | .fp2mul _ _ _ => ⟨"FP2MUL", 0x22000000#32, 0xFF82083F#32⟩
  | .fp2sqr _ _ => ⟨"FP2SQR", 0x23000000#32, 0xFF820FFF#32⟩
  | .fp2neg _ _ => ⟨"FP2NEG", 0x24000000#32, 0xFF820FFF#32⟩
  | .fp2div2 _ _ => ⟨"FP2DIV2", 0x25000000#32, 0xFF820FFF#32⟩
  | .fp2mov _ _ => ⟨"FP2MOV", 0x26000000#32, 0xFF820FFF#32⟩
  | .fp2cswap _ _ => ⟨"FP2CSWAP", 0x28000000#32, 0xFFFE083F#32⟩
  | .fp2csel _ _ _ => ⟨"FP2CSEL", 0x29000000#32, 0xFF82083F#32⟩
  | .fp2test _ _ => ⟨"FP2TEST", 0x2A000000#32, 0xFFFE083F#32⟩
  | .fpinv _ _ => ⟨"FPINV", 0x30000000#32, 0xFF000FFF#32⟩
  | .fp2inv _ _ => ⟨"FP2INV", 0x31000000#32, 0xFF820FFF#32⟩
  | .inv3 _ => ⟨"INV3", 0x32000000#32, 0xFF83FFFF#32⟩
  | .inv4 _ => ⟨"INV4", 0x33000000#32, 0xFF83FFFF#32⟩
  | .cset _ _ => ⟨"CSET", 0x40000000#32, 0xFFFE083F#32⟩
  | .cget _ _ => ⟨"CGET", 0x41000000#32, 0xFF820FFF#32⟩
  | .xdbl _ _ => ⟨"XDBL", 0x42000000#32, 0xFFC30FFF#32⟩
  | .xtpl _ _ => ⟨"XTPL", 0x43000000#32, 0xFFC30FFF#32⟩
  | .xadd _ _ _ _ => ⟨"XADD", 0x44000000#32, 0xFFC30C20#32⟩
  | .xdbladd _ _ _ => ⟨"XDBLADD", 0x45000000#32, 0xFFC3083F#32⟩
  | .pcswap _ _ => ⟨"PCSWAP", 0x46000000#32, 0xFFFF0C3F#32⟩
  | .jinv _ => ⟨"JINV", 0x47000000#32, 0xFF83FFFF#32⟩
  | .recova _ _ _ _ => ⟨"RECOVA", 0x48000000#32, 0xFF820820#32⟩
  | .ladder _ _ _ _ => ⟨"LADDER", 0x50000000#32, 0xFFC20820#32⟩
  | .get3 _ => ⟨"GET3", 0x60000000#32, 0xFFFF0FFF#32⟩
  | .eval3 _ _ => ⟨"EVAL3", 0x61000000#32, 0xFFC30FFF#32⟩
  | .get4 _ => ⟨"GET4", 0x62000000#32, 0xFFFF0FFF#32⟩
  | .eval4 _ _ => ⟨"EVAL4", 0x63000000#32, 0xFFC30FFF#32⟩
  | .get4f => ⟨"GET4F", 0x64000000#32, 0xFFFFFFFF#32⟩

/-- The row is in the opcode map, and "(word AND mask) = match" holds of the command's word (R304). -/
def Statement (i : Instr) : Prop := row i ∈ opcodeTable ∧ encode i &&& (row i).mask = (row i).matchBits

theorem nop : Statement (.nop) := by
  refine ⟨by simp [row, opcodeTable, opcodeRowsA, opcodeRowsB, opcodeRowsC], ?_⟩
  show encodeR _ _ _ _ _ &&& encodeR 0xFF#8 0x3F#6 0x3F#6 0x3F#6 0x3F#6 = encodeR 0x00#8 0#6 0#6 0#6 0#6
  rw [encodeR_and]; simp

theorem config : Statement (.config) := by
  refine ⟨by simp [row, opcodeTable, opcodeRowsA, opcodeRowsB, opcodeRowsC], ?_⟩
  show encodeR _ _ _ _ _ &&& encodeR 0xFF#8 0x3F#6 0x3F#6 0x3F#6 0x3F#6 = encodeR 0x01#8 0#6 0#6 0#6 0#6
  rw [encodeR_and]; simp

theorem fpadd (d : FReg) (a : FReg) (b : FReg) : Statement (.fpadd d a b) := by
  refine ⟨by simp [row, opcodeTable, opcodeRowsA, opcodeRowsB, opcodeRowsC], ?_⟩
  show encodeR _ _ _ _ _ &&& encodeR 0xFF#8 0x00#6 0x00#6 0x00#6 0x3F#6 = encodeR 0x10#8 0#6 0#6 0#6 0#6
  rw [encodeR_and]; simp

theorem fpsub (d : FReg) (a : FReg) (b : FReg) : Statement (.fpsub d a b) := by
  refine ⟨by simp [row, opcodeTable, opcodeRowsA, opcodeRowsB, opcodeRowsC], ?_⟩
  show encodeR _ _ _ _ _ &&& encodeR 0xFF#8 0x00#6 0x00#6 0x00#6 0x3F#6 = encodeR 0x11#8 0#6 0#6 0#6 0#6
  rw [encodeR_and]; simp

theorem fpmul (d : FReg) (a : FReg) (b : FReg) : Statement (.fpmul d a b) := by
  refine ⟨by simp [row, opcodeTable, opcodeRowsA, opcodeRowsB, opcodeRowsC], ?_⟩
  show encodeR _ _ _ _ _ &&& encodeR 0xFF#8 0x00#6 0x00#6 0x00#6 0x3F#6 = encodeR 0x12#8 0#6 0#6 0#6 0#6
  rw [encodeR_and]; simp

theorem fpsqr (d : FReg) (a : FReg) : Statement (.fpsqr d a) := by
  refine ⟨by simp [row, opcodeTable, opcodeRowsA, opcodeRowsB, opcodeRowsC], ?_⟩
  show encodeR _ _ _ _ _ &&& encodeR 0xFF#8 0x00#6 0x00#6 0x3F#6 0x3F#6 = encodeR 0x13#8 0#6 0#6 0#6 0#6
  rw [encodeR_and]; simp

theorem fpneg (d : FReg) (a : FReg) : Statement (.fpneg d a) := by
  refine ⟨by simp [row, opcodeTable, opcodeRowsA, opcodeRowsB, opcodeRowsC], ?_⟩
  show encodeR _ _ _ _ _ &&& encodeR 0xFF#8 0x00#6 0x00#6 0x3F#6 0x3F#6 = encodeR 0x14#8 0#6 0#6 0#6 0#6
  rw [encodeR_and]; simp

theorem fpdiv2 (d : FReg) (a : FReg) : Statement (.fpdiv2 d a) := by
  refine ⟨by simp [row, opcodeTable, opcodeRowsA, opcodeRowsB, opcodeRowsC], ?_⟩
  show encodeR _ _ _ _ _ &&& encodeR 0xFF#8 0x00#6 0x00#6 0x3F#6 0x3F#6 = encodeR 0x15#8 0#6 0#6 0#6 0#6
  rw [encodeR_and]; simp

theorem fpmov (d : FReg) (a : FReg) : Statement (.fpmov d a) := by
  refine ⟨by simp [row, opcodeTable, opcodeRowsA, opcodeRowsB, opcodeRowsC], ?_⟩
  show encodeR _ _ _ _ _ &&& encodeR 0xFF#8 0x00#6 0x00#6 0x3F#6 0x3F#6 = encodeR 0x16#8 0#6 0#6 0#6 0#6
  rw [encodeR_and]; simp

theorem fpseti (d : FReg) (imm : Imm18) : Statement (.fpseti d imm) := by
  refine ⟨by simp [row, opcodeTable, opcodeRowsA, opcodeRowsB, opcodeRowsC], ?_⟩
  show encodeI _ _ _ &&& encodeI 0xFF#8 0#6 0#18 = encodeI 0x17#8 0#6 0#18
  simp [encodeI_and]

theorem fpcswap (a : FReg) (b : FReg) : Statement (.fpcswap a b) := by
  refine ⟨by simp [row, opcodeTable, opcodeRowsA, opcodeRowsB, opcodeRowsC], ?_⟩
  show encodeR _ _ _ _ _ &&& encodeR 0xFF#8 0x3F#6 0x00#6 0x00#6 0x3F#6 = encodeR 0x18#8 0#6 0#6 0#6 0#6
  rw [encodeR_and]; simp

theorem fpcsel (d : FReg) (a : FReg) (b : FReg) : Statement (.fpcsel d a b) := by
  refine ⟨by simp [row, opcodeTable, opcodeRowsA, opcodeRowsB, opcodeRowsC], ?_⟩
  show encodeR _ _ _ _ _ &&& encodeR 0xFF#8 0x00#6 0x00#6 0x00#6 0x3F#6 = encodeR 0x19#8 0#6 0#6 0#6 0#6
  rw [encodeR_and]; simp

theorem fptest (a : FReg) (b : FReg) : Statement (.fptest a b) := by
  refine ⟨by simp [row, opcodeTable, opcodeRowsA, opcodeRowsB, opcodeRowsC], ?_⟩
  show encodeR _ _ _ _ _ &&& encodeR 0xFF#8 0x3F#6 0x00#6 0x00#6 0x3F#6 = encodeR 0x1A#8 0#6 0#6 0#6 0#6
  rw [encodeR_and]; simp

theorem fp2add (d : EReg) (a : EReg) (b : EReg) : Statement (.fp2add d a b) := by
  refine ⟨by simp [row, opcodeTable, opcodeRowsA, opcodeRowsB, opcodeRowsC], ?_⟩
  show encodeR _ _ _ _ _ &&& encodeR 0xFF#8 0x20#6 0x20#6 0x20#6 0x3F#6 = encodeR 0x20#8 0#6 0#6 0#6 0#6
  rw [encodeR_and]; simp

theorem fp2sub (d : EReg) (a : EReg) (b : EReg) : Statement (.fp2sub d a b) := by
  refine ⟨by simp [row, opcodeTable, opcodeRowsA, opcodeRowsB, opcodeRowsC], ?_⟩
  show encodeR _ _ _ _ _ &&& encodeR 0xFF#8 0x20#6 0x20#6 0x20#6 0x3F#6 = encodeR 0x21#8 0#6 0#6 0#6 0#6
  rw [encodeR_and]; simp

theorem fp2mul (d : EReg) (a : EReg) (b : EReg) : Statement (.fp2mul d a b) := by
  refine ⟨by simp [row, opcodeTable, opcodeRowsA, opcodeRowsB, opcodeRowsC], ?_⟩
  show encodeR _ _ _ _ _ &&& encodeR 0xFF#8 0x20#6 0x20#6 0x20#6 0x3F#6 = encodeR 0x22#8 0#6 0#6 0#6 0#6
  rw [encodeR_and]; simp

theorem fp2sqr (d : EReg) (a : EReg) : Statement (.fp2sqr d a) := by
  refine ⟨by simp [row, opcodeTable, opcodeRowsA, opcodeRowsB, opcodeRowsC], ?_⟩
  show encodeR _ _ _ _ _ &&& encodeR 0xFF#8 0x20#6 0x20#6 0x3F#6 0x3F#6 = encodeR 0x23#8 0#6 0#6 0#6 0#6
  rw [encodeR_and]; simp

theorem fp2neg (d : EReg) (a : EReg) : Statement (.fp2neg d a) := by
  refine ⟨by simp [row, opcodeTable, opcodeRowsA, opcodeRowsB, opcodeRowsC], ?_⟩
  show encodeR _ _ _ _ _ &&& encodeR 0xFF#8 0x20#6 0x20#6 0x3F#6 0x3F#6 = encodeR 0x24#8 0#6 0#6 0#6 0#6
  rw [encodeR_and]; simp

theorem fp2div2 (d : EReg) (a : EReg) : Statement (.fp2div2 d a) := by
  refine ⟨by simp [row, opcodeTable, opcodeRowsA, opcodeRowsB, opcodeRowsC], ?_⟩
  show encodeR _ _ _ _ _ &&& encodeR 0xFF#8 0x20#6 0x20#6 0x3F#6 0x3F#6 = encodeR 0x25#8 0#6 0#6 0#6 0#6
  rw [encodeR_and]; simp

theorem fp2mov (d : EReg) (a : EReg) : Statement (.fp2mov d a) := by
  refine ⟨by simp [row, opcodeTable, opcodeRowsA, opcodeRowsB, opcodeRowsC], ?_⟩
  show encodeR _ _ _ _ _ &&& encodeR 0xFF#8 0x20#6 0x20#6 0x3F#6 0x3F#6 = encodeR 0x26#8 0#6 0#6 0#6 0#6
  rw [encodeR_and]; simp

theorem fp2cswap (a : EReg) (b : EReg) : Statement (.fp2cswap a b) := by
  refine ⟨by simp [row, opcodeTable, opcodeRowsA, opcodeRowsB, opcodeRowsC], ?_⟩
  show encodeR _ _ _ _ _ &&& encodeR 0xFF#8 0x3F#6 0x20#6 0x20#6 0x3F#6 = encodeR 0x28#8 0#6 0#6 0#6 0#6
  rw [encodeR_and]; simp

theorem fp2csel (d : EReg) (a : EReg) (b : EReg) : Statement (.fp2csel d a b) := by
  refine ⟨by simp [row, opcodeTable, opcodeRowsA, opcodeRowsB, opcodeRowsC], ?_⟩
  show encodeR _ _ _ _ _ &&& encodeR 0xFF#8 0x20#6 0x20#6 0x20#6 0x3F#6 = encodeR 0x29#8 0#6 0#6 0#6 0#6
  rw [encodeR_and]; simp

theorem fp2test (a : EReg) (b : EReg) : Statement (.fp2test a b) := by
  refine ⟨by simp [row, opcodeTable, opcodeRowsA, opcodeRowsB, opcodeRowsC], ?_⟩
  show encodeR _ _ _ _ _ &&& encodeR 0xFF#8 0x3F#6 0x20#6 0x20#6 0x3F#6 = encodeR 0x2A#8 0#6 0#6 0#6 0#6
  rw [encodeR_and]; simp

theorem fpinv (d : FReg) (a : FReg) : Statement (.fpinv d a) := by
  refine ⟨by simp [row, opcodeTable, opcodeRowsA, opcodeRowsB, opcodeRowsC], ?_⟩
  show encodeR _ _ _ _ _ &&& encodeR 0xFF#8 0x00#6 0x00#6 0x3F#6 0x3F#6 = encodeR 0x30#8 0#6 0#6 0#6 0#6
  rw [encodeR_and]; simp

theorem fp2inv (d : EReg) (a : EReg) : Statement (.fp2inv d a) := by
  refine ⟨by simp [row, opcodeTable, opcodeRowsA, opcodeRowsB, opcodeRowsC], ?_⟩
  show encodeR _ _ _ _ _ &&& encodeR 0xFF#8 0x20#6 0x20#6 0x3F#6 0x3F#6 = encodeR 0x31#8 0#6 0#6 0#6 0#6
  rw [encodeR_and]; simp

theorem inv3 (d : EReg) : Statement (.inv3 d) := by
  refine ⟨by simp [row, opcodeTable, opcodeRowsA, opcodeRowsB, opcodeRowsC], ?_⟩
  show encodeR _ _ _ _ _ &&& encodeR 0xFF#8 0x20#6 0x3F#6 0x3F#6 0x3F#6 = encodeR 0x32#8 0#6 0#6 0#6 0#6
  rw [encodeR_and]; simp

theorem inv4 (d : EReg) : Statement (.inv4 d) := by
  refine ⟨by simp [row, opcodeTable, opcodeRowsA, opcodeRowsB, opcodeRowsC], ?_⟩
  show encodeR _ _ _ _ _ &&& encodeR 0xFF#8 0x20#6 0x3F#6 0x3F#6 0x3F#6 = encodeR 0x33#8 0#6 0#6 0#6 0#6
  rw [encodeR_and]; simp

theorem cset (a : EReg) (b : EReg) : Statement (.cset a b) := by
  refine ⟨by simp [row, opcodeTable, opcodeRowsA, opcodeRowsB, opcodeRowsC], ?_⟩
  show encodeR _ _ _ _ _ &&& encodeR 0xFF#8 0x3F#6 0x20#6 0x20#6 0x3F#6 = encodeR 0x40#8 0#6 0#6 0#6 0#6
  rw [encodeR_and]; simp

theorem cget (d : EReg) (a : EReg) : Statement (.cget d a) := by
  refine ⟨by simp [row, opcodeTable, opcodeRowsA, opcodeRowsB, opcodeRowsC], ?_⟩
  show encodeR _ _ _ _ _ &&& encodeR 0xFF#8 0x20#6 0x20#6 0x3F#6 0x3F#6 = encodeR 0x41#8 0#6 0#6 0#6 0#6
  rw [encodeR_and]; simp

theorem xdbl (d : PReg) (a : PReg) : Statement (.xdbl d a) := by
  refine ⟨by simp [row, opcodeTable, opcodeRowsA, opcodeRowsB, opcodeRowsC], ?_⟩
  show encodeR _ _ _ _ _ &&& encodeR 0xFF#8 0x30#6 0x30#6 0x3F#6 0x3F#6 = encodeR 0x42#8 0#6 0#6 0#6 0#6
  rw [encodeR_and]; simp

theorem xtpl (d : PReg) (a : PReg) : Statement (.xtpl d a) := by
  refine ⟨by simp [row, opcodeTable, opcodeRowsA, opcodeRowsB, opcodeRowsC], ?_⟩
  show encodeR _ _ _ _ _ &&& encodeR 0xFF#8 0x30#6 0x30#6 0x3F#6 0x3F#6 = encodeR 0x43#8 0#6 0#6 0#6 0#6
  rw [encodeR_and]; simp

theorem xadd (d : PReg) (a : PReg) (b : PReg) (c : EReg) : Statement (.xadd d a b c) := by
  refine ⟨by simp [row, opcodeTable, opcodeRowsA, opcodeRowsB, opcodeRowsC], ?_⟩
  show encodeR _ _ _ _ _ &&& encodeR 0xFF#8 0x30#6 0x30#6 0x30#6 0x20#6 = encodeR 0x44#8 0#6 0#6 0#6 0#6
  rw [encodeR_and]; simp

theorem xdbladd (d : PReg) (a : PReg) (b : EReg) : Statement (.xdbladd d a b) := by
  refine ⟨by simp [row, opcodeTable, opcodeRowsA, opcodeRowsB, opcodeRowsC], ?_⟩
  show encodeR _ _ _ _ _ &&& encodeR 0xFF#8 0x30#6 0x30#6 0x20#6 0x3F#6 = encodeR 0x45#8 0#6 0#6 0#6 0#6
  rw [encodeR_and]; simp

theorem pcswap (a : PReg) (b : PReg) : Statement (.pcswap a b) := by
  refine ⟨by simp [row, opcodeTable, opcodeRowsA, opcodeRowsB, opcodeRowsC], ?_⟩
  show encodeR _ _ _ _ _ &&& encodeR 0xFF#8 0x3F#6 0x30#6 0x30#6 0x3F#6 = encodeR 0x46#8 0#6 0#6 0#6 0#6
  rw [encodeR_and]; simp

theorem jinv (d : EReg) : Statement (.jinv d) := by
  refine ⟨by simp [row, opcodeTable, opcodeRowsA, opcodeRowsB, opcodeRowsC], ?_⟩
  show encodeR _ _ _ _ _ &&& encodeR 0xFF#8 0x20#6 0x3F#6 0x3F#6 0x3F#6 = encodeR 0x47#8 0#6 0#6 0#6 0#6
  rw [encodeR_and]; simp

theorem recova (d : EReg) (a : EReg) (b : EReg) (c : EReg) : Statement (.recova d a b c) := by
  refine ⟨by simp [row, opcodeTable, opcodeRowsA, opcodeRowsB, opcodeRowsC], ?_⟩
  show encodeR _ _ _ _ _ &&& encodeR 0xFF#8 0x20#6 0x20#6 0x20#6 0x20#6 = encodeR 0x48#8 0#6 0#6 0#6 0#6
  rw [encodeR_and]; simp

theorem ladder (d : PReg) (a : EReg) (b : EReg) (c : EReg) : Statement (.ladder d a b c) := by
  refine ⟨by simp [row, opcodeTable, opcodeRowsA, opcodeRowsB, opcodeRowsC], ?_⟩
  show encodeR _ _ _ _ _ &&& encodeR 0xFF#8 0x30#6 0x20#6 0x20#6 0x20#6 = encodeR 0x50#8 0#6 0#6 0#6 0#6
  rw [encodeR_and]; simp

theorem get3 (a : PReg) : Statement (.get3 a) := by
  refine ⟨by simp [row, opcodeTable, opcodeRowsA, opcodeRowsB, opcodeRowsC], ?_⟩
  show encodeR _ _ _ _ _ &&& encodeR 0xFF#8 0x3F#6 0x30#6 0x3F#6 0x3F#6 = encodeR 0x60#8 0#6 0#6 0#6 0#6
  rw [encodeR_and]; simp

theorem eval3 (d : PReg) (a : PReg) : Statement (.eval3 d a) := by
  refine ⟨by simp [row, opcodeTable, opcodeRowsA, opcodeRowsB, opcodeRowsC], ?_⟩
  show encodeR _ _ _ _ _ &&& encodeR 0xFF#8 0x30#6 0x30#6 0x3F#6 0x3F#6 = encodeR 0x61#8 0#6 0#6 0#6 0#6
  rw [encodeR_and]; simp

theorem get4 (a : PReg) : Statement (.get4 a) := by
  refine ⟨by simp [row, opcodeTable, opcodeRowsA, opcodeRowsB, opcodeRowsC], ?_⟩
  show encodeR _ _ _ _ _ &&& encodeR 0xFF#8 0x3F#6 0x30#6 0x3F#6 0x3F#6 = encodeR 0x62#8 0#6 0#6 0#6 0#6
  rw [encodeR_and]; simp

theorem eval4 (d : PReg) (a : PReg) : Statement (.eval4 d a) := by
  refine ⟨by simp [row, opcodeTable, opcodeRowsA, opcodeRowsB, opcodeRowsC], ?_⟩
  show encodeR _ _ _ _ _ &&& encodeR 0xFF#8 0x30#6 0x30#6 0x3F#6 0x3F#6 = encodeR 0x63#8 0#6 0#6 0#6 0#6
  rw [encodeR_and]; simp

theorem get4f : Statement (.get4f) := by
  refine ⟨by simp [row, opcodeTable, opcodeRowsA, opcodeRowsB, opcodeRowsC], ?_⟩
  show encodeR _ _ _ _ _ &&& encodeR 0xFF#8 0x3F#6 0x3F#6 0x3F#6 0x3F#6 = encodeR 0x64#8 0#6 0#6 0#6 0#6
  rw [encodeR_and]; simp

end Sys2Proof.Laws.EncodingRow
end

