-- ==== Sys2Proof/Tests/Slice0.lean ====
section
/-! SUPPORT. The model's own tests: the checks of WellFormed, the decoder on words of spec/95_test_vectors.md, one step of
every command on that file's derived vectors (p = 431, SLOT_BYTES = 16), the bus on its section 2.10, and for every statement
with hypotheses a witness that meets them, with the values at the clauses' boundaries. -/

namespace Sys2Proof.Tests
set_option Elab.async false
open Sys2Proof.Machine Sys2Proof.Claims

/-! Helpers. -/

/-- Whether an outcome is a next state. -/
def isNext (o : Host.Outcome State Fault Refusal) : Bool :=
  match o with
  | .next _ => true
  | .fault _ | .refused _ => false

/-- The next state of an outcome, `s` where there is none. -/
def stateOf (s : State) (o : Host.Outcome State Fault Refusal) : State :=
  match o with
  | .next t => t
  | .fault _ | .refused _ => s

theorem eq_next_stateOf {o : Host.Outcome State Fault Refusal} (s : State) (h : isNext o = true) :
    o = .next (stateOf s o) := by
  cases o <;> simp_all [isNext, stateOf]

/-- The state after one command. -/
def after (i : Instr) (s : State) : State := stateOf s (exec i s)

/-- Registers set by hand. -/
def load (s : State) : List (FReg × Nat) → State
  | [] => s
  | (r, v) :: l => load (s.setF r v) l

/-- Right after a hardware reset, with SLOT_BYTES = 16. -/
def fresh : State := State.powerUp .s16 fun _ => 0

/-- The curve registers of E0 (A = 0, C = 1), as CSET leaves them (95_test_vectors.md 2.6). -/
def curveE0 : CurveRegs := ⟨⟨0, 0⟩, ⟨1, 0⟩, ⟨2, 0⟩, ⟨429, 0⟩, ⟨4, 0⟩⟩

/-- Configured with p = 431 and E0. -/
def base : State := { fresh with mod := 431, cfgOk := true, pbits := 9, curve := curveE0 }

/-- E1 = (100, 200) and E2 = (300, 50) (95_test_vectors.md 2.4). -/
def xy : State := load base [(2, 100), (3, 200), (4, 300), (5, 50)]

/-- P0 = (2 : 1), P1 = (3 : 1), E20 = (324, 0) (95_test_vectors.md 2.6). -/
def points : State := load base [(0, 2), (2, 1), (4, 3), (6, 1), (40, 324)]

/-- E20 = xP, E21 = xQ, E22 = x(P - Q), SCALAR = 5, NBITS = 4 (95_test_vectors.md 2.7). -/
def ladderInput : State := { load base [(40, 2), (42, 3), (44, 324)] with scalar := 5, nbits := 4#16 }

/-- P0 = (2 : 1), P1 = K3 = ((0,5) : (1,0)). -/
def kernel3 : State := load base [(0, 2), (2, 1), (5, 5), (6, 1)]

/-- P0 = (2 : 1), P1 = K4 = ((0,187) : (1,0)). -/
def kernel4 : State := load base [(0, 2), (2, 1), (5, 187), (6, 1)]

/-- Every F register one above the range of canonical values: F[r] = p (R107). -/
def atModulus : State := { base with f := Vector.ofFn fun _ => 431 }

/-- Every F register at the largest canonical value. -/
def belowModulus : State := { base with f := Vector.ofFn fun _ => 430 }

/-- An instance with a LADDER in flight. -/
def running : State := ladderInput.accept 0x500D4556#32 7

/-! WellFormed: the ill-formed terms are those R301 names. -/

theorem test_wf_refuses_inv3_above_29 : (Instr.inv3 30).wf = false ∧ (Instr.inv3 31).wf = false := by decide
theorem test_wf_refuses_inv4_above_28 : (Instr.inv4 29).wf = false ∧ (Instr.inv4 31).wf = false := by decide
theorem test_wf_admits_the_bounds : (Instr.inv3 29).wf = true ∧ (Instr.inv4 28).wf = true := by decide

/-! Decode: words of 95_test_vectors.md section 2, and fields written out from R300 where it gives none. -/

theorem test_decode_control : decodeWord 0x00000000#32 = some .nop ∧ decodeWord 0x01000000#32 = some .config := by
  decide +kernel

theorem test_decode_gfp :
    decodeWord 0x100C1080#32 = some (.fpadd 3 1 2) ∧ decodeWord 0x110C1080#32 = some (.fpsub 3 1 2) ∧
    decodeWord 0x120C1080#32 = some (.fpmul 3 1 2) ∧ decodeWord 0x13081000#32 = some (.fpsqr 2 1) ∧
    decodeWord 0x14081000#32 = some (.fpneg 2 1) ∧ decodeWord 0x15081000#32 = some (.fpdiv2 2 1) ∧
    decodeWord 0x16241000#32 = some (.fpmov 9 1) ∧ decodeWord 0x17FFFFFF#32 = some (.fpseti 63 0x3FFFF#18) ∧
    decodeWord 0x18007240#32 = some (.fpcswap 7 9) ∧ decodeWord 0x190C1080#32 = some (.fpcsel 3 1 2) ∧
    decodeWord 0x1A001080#32 = some (.fptest 1 2) := by decide +kernel

theorem test_decode_gfp2 :
    decodeWord 0x200C1080#32 = some (.fp2add 3 1 2) ∧ decodeWord 0x210C2040#32 = some (.fp2sub 3 2 1) ∧
    decodeWord 0x220C1080#32 = some (.fp2mul 3 1 2) ∧ decodeWord 0x230C1000#32 = some (.fp2sqr 3 1) ∧
    decodeWord 0x240C1000#32 = some (.fp2neg 3 1) ∧ decodeWord 0x250C1000#32 = some (.fp2div2 3 1) ∧
    decodeWord 0x26101000#32 = some (.fp2mov 4 1) ∧ decodeWord 0x28001080#32 = some (.fp2cswap 1 2) ∧
    decodeWord 0x290C1080#32 = some (.fp2csel 3 1 2) ∧ decodeWord 0x2A001080#32 = some (.fp2test 1 2) := by
  decide +kernel

theorem test_decode_inverse :
    decodeWord 0x30081000#32 = some (.fpinv 2 1) ∧ decodeWord 0x31081000#32 = some (.fp2inv 2 1) ∧
    decodeWord 0x32400000#32 = some (.inv3 16) ∧ decodeWord 0x33200000#32 = some (.inv4 8) := by decide +kernel

theorem test_decode_curve :
    decodeWord 0x4001E7C0#32 = some (.cset 30 31) ∧ decodeWord 0x41105000#32 = some (.cget 4 5) ∧
    decodeWord 0x42040000#32 = some (.xdbl 1 0) ∧ decodeWord 0x43080000#32 = some (.xtpl 2 0) ∧
    decodeWord 0x440C0054#32 = some (.xadd 3 0 1 20) ∧ decodeWord 0x45001500#32 = some (.xdbladd 0 1 20) ∧
    decodeWord 0x46000040#32 = some (.pcswap 0 1) ∧ decodeWord 0x47180000#32 = some (.jinv 6) ∧
    decodeWord 0x48194556#32 = some (.recova 6 20 21 22) := by decide +kernel

theorem test_decode_ladder_isogeny :
    decodeWord 0x500D4556#32 = some (.ladder 3 20 21 22) ∧ decodeWord 0x60001000#32 = some (.get3 1) ∧
    decodeWord 0x61080000#32 = some (.eval3 2 0) ∧ decodeWord 0x62001000#32 = some (.get4 1) ∧
    decodeWord 0x63080000#32 = some (.eval4 2 0) ∧ decodeWord 0x64000000#32 = some .get4f := by decide +kernel

/-- The fields of R300 written out bit by bit: op 31:24, d 23:18, a 17:12, b 11:6, c 5:0. -/
theorem test_decode_bit_by_bit :
    decodeWord (0b00010000#8 ++ 0b111111#6 ++ 0b100000#6 ++ 0b000001#6 ++ 0b000000#6) = some (.fpadd 63 32 1) ∧
    decodeWord (0b00100010#8 ++ 0b011111#6 ++ 0b010000#6 ++ 0b000001#6 ++ 0b000000#6) = some (.fp2mul 31 16 1) ∧
    decodeWord (0b00110010#8 ++ 0b011101#6 ++ 0b000000#6 ++ 0b000000#6 ++ 0b000000#6) = some (.inv3 29) ∧
    decodeWord (0b01000100#8 ++ 0b001111#6 ++ 0b001000#6 ++ 0b000001#6 ++ 0b011111#6) = some (.xadd 15 8 1 31) ∧
    decodeWord (0b01010000#8 ++ 0b001111#6 ++ 0b010000#6 ++ 0b000001#6 ++ 0b011111#6) = some (.ladder 15 16 1 31) ∧
    decodeWord (0b01100011#8 ++ 0b001000#6 ++ 0b001111#6 ++ 0b000000#6 ++ 0b000000#6) = some (.eval4 8 15) ∧
    decodeWord (0b00010111#8 ++ 0b100001#6 ++ 0b100000000000000001#18) = some (.fpseti 33 0x20001#18) := by
  decide +kernel

/-- The illegal words of 95_test_vectors.md 2.9. -/
theorem test_decode_refuses :
    decodeWord 0x10000001#32 = none ∧ decodeWord 0x20A00000#32 = none ∧ decodeWord 0x42400000#32 = none ∧
    decodeWord 0x33740000#32 = none ∧ decodeWord 0x32780000#32 = none ∧ decodeWord 0xFF000000#32 = none ∧
    decodeWord 0x27000000#32 = none ∧ decodeWord 0x01000001#32 = none := by decide +kernel

theorem test_encode :
    encode (.recova 6 20 21 22) = 0x48194556#32 ∧ encode (.fpseti 5 0x3FFFF#18) = 0x1717FFFF#32 ∧
    encode (.xdbladd 0 1 20) = 0x45001500#32 ∧ encode (.fpcswap 7 9) = 0x18007240#32 := by decide +kernel

/-- No word is admitted by two rows of R304. -/
theorem test_opcode_rows_disjoint :
    opcodeTable.length = 42 ∧
    opcodeTable.Pairwise (fun r q => r.matchBits &&& (r.mask &&& q.mask) ≠ q.matchBits &&& (r.mask &&& q.mask)) := by
  decide +kernel

/-! One step of each command (95_test_vectors.md 2.1 to 2.8). -/

theorem test_nop : (after .nop (fresh.accept 0#32 0)).statusWord = 0x2#32 ∧ (fresh.accept 0#32 0).statusWord = 0x1#32 := by
  decide +kernel
theorem test_config :
    (after .config { fresh with mod := 431 }).pbits = 9 ∧ (after .config { fresh with mod := 431 }).statusWord = 0xA#32 := by
  decide +kernel
theorem test_config_accepts :
    (after .config { fresh with mod := 3 }).pbits = 2 ∧ (after .config { fresh with mod := 7 }).pbits = 3 ∧
    (after .config { fresh with mod := 2 ^ 127 - 1 }).pbits = 127 ∧
    ∀ m ∈ [433, 435, 1, 2 ^ 128 - 1], (after .config { fresh with mod := m }).errcode = .eBadmod := by decide +kernel
theorem test_fpadd : (after (.fpadd 3 1 2) (load base [(1, 400), (2, 100)])).F 3 = 69 := by decide +kernel
theorem test_fpadd_same_register : (after (.fpadd 1 1 1) (load base [(1, 400)])).F 1 = 369 := by decide +kernel
theorem test_fpsub : (after (.fpsub 3 1 2) (load base [(1, 5), (2, 10)])).F 3 = 426 := by decide +kernel
theorem test_fpmul : (after (.fpmul 3 1 2) (load base [(1, 123), (2, 321)])).F 3 = 262 := by decide +kernel
theorem test_fpmul_wide :
    (after (.fpmul 3 1 2) (load { base with mod := 2 ^ 127 - 1 } [(1, 2 ^ 126), (2, 4)])).F 3 = 2 := by decide +kernel
theorem test_fpsqr : (after (.fpsqr 2 1) (load base [(1, 200)])).F 2 = 348 := by decide +kernel
theorem test_fpneg : (after (.fpneg 2 1) (load base [(1, 17)])).F 2 = 414 := by decide +kernel
theorem test_fpneg_zero : (after (.fpneg 2 1) (load base [(2, 5)])).F 2 = 0 := by decide +kernel
theorem test_fpdiv2 : (after (.fpdiv2 2 1) (load base [(1, 7)])).F 2 = 219 := by decide +kernel
theorem test_fpdiv2_wide :
    (after (.fpdiv2 2 1) (load { base with mod := 2 ^ 127 - 1 } [(1, 1)])).F 2 = 2 ^ 126 := by decide +kernel
theorem test_fpmov : (after (.fpmov 9 1) (load base [(1, 5)])).F 9 = 5 := by decide +kernel
theorem test_fpseti : (after (.fpseti 5 431#18) (load base [(5, 7)])).F 5 = 0 := by decide +kernel
theorem test_fpseti_widest : (after (.fpseti 5 0x3FFFF#18) base).F 5 = 95 := by decide +kernel
theorem test_fpcswap :
    let t := after (.fpcswap 7 9) { load base [(7, 3), (9, 8)] with sel := 1#32 }
    t.F 7 = 8 ∧ t.F 9 = 3 := by decide +kernel
theorem test_fpcswap_selector_2 :
    let t := after (.fpcswap 7 9) { load base [(7, 3), (9, 8)] with sel := 2#32 }
    t.F 7 = 3 ∧ t.F 9 = 8 ∧ t.errcodeWord = 0x06#32 := by decide +kernel
theorem test_fpcsel :
    (after (.fpcsel 3 1 2) { load base [(1, 10), (2, 20)] with sel := 1#32 }).F 3 = 20 ∧
    (after (.fpcsel 3 1 2) (load base [(1, 10), (2, 20)])).F 3 = 10 := by decide +kernel
theorem test_fptest : (after (.fptest 1 2) (load base [(1, 5), (2, 7)])).flagsWord = 0x6#32 := by decide +kernel
theorem test_fptest_equal : (after (.fptest 1 2) (load base [(1, 430), (2, 430)])).flagsWord = 0x1#32 := by decide +kernel
theorem test_fp2add : (after (.fp2add 3 1 2) xy).E 3 = ⟨400, 250⟩ := by decide +kernel
theorem test_fp2sub : (after (.fp2sub 3 2 1) xy).E 3 = ⟨200, 281⟩ := by decide +kernel
theorem test_fp2mul : (after (.fp2mul 3 1 2) xy).E 3 = ⟨174, 350⟩ := by decide +kernel
theorem test_fp2mul_i_squared : (after (.fp2mul 3 1 2) (load base [(3, 1), (5, 1)])).E 3 = ⟨430, 0⟩ := by decide +kernel
theorem test_fp2sqr : (after (.fp2sqr 3 1) xy).E 3 = ⟨170, 348⟩ := by decide +kernel
theorem test_fp2neg : (after (.fp2neg 3 1) (load base [(3, 5)])).E 3 = ⟨0, 426⟩ := by decide +kernel
theorem test_fp2div2 : (after (.fp2div2 3 1) (load base [(2, 7), (3, 300)])).E 3 = ⟨219, 150⟩ := by decide +kernel
theorem test_fp2mov : (after (.fp2mov 4 1) xy).E 4 = ⟨100, 200⟩ := by decide +kernel
theorem test_fp2cswap :
    let t := after (.fp2cswap 1 2) { xy with sel := 1#32 }
    t.E 1 = ⟨300, 50⟩ ∧ t.E 2 = ⟨100, 200⟩ := by decide +kernel
theorem test_fp2csel : (after (.fp2csel 3 1 2) xy).E 3 = ⟨100, 200⟩ := by decide +kernel
theorem test_fp2test :
    (after (.fp2test 1 1) xy).flagsWord = 0x1#32 ∧
    (after (.fp2test 1 2) (load base [(2, 100), (3, 200), (4, 100), (5, 201)])).flagsWord = 0x0#32 := by decide +kernel
theorem test_fpinv : (after (.fpinv 2 1) (load base [(1, 5)])).F 2 = 345 := by decide +kernel
theorem test_fpinv_zero :
    let t := after (.fpinv 2 1) (load base [(2, 9)])
    t.F 2 = 0 ∧ t.flagsWord = 0x8#32 := by decide +kernel
theorem test_fp2inv : (after (.fp2inv 2 1) xy).E 2 = ⟨25, 381⟩ ∧ (after (.fp2inv 2 1) xy).flagsWord = 0x0#32 := by
  decide +kernel
theorem test_inv3 :
    let t := after (.inv3 0) (load base [(0, 100), (1, 200), (2, 300), (3, 50), (4, 3), (5, 4)])
    t.E 0 = ⟨25, 381⟩ ∧ t.E 1 = ⟨390, 366⟩ ∧ t.E 2 = ⟨207, 155⟩ := by decide +kernel
theorem test_inv3_zero :
    let t := after (.inv3 16) (load base [(32, 70), (33, 271), (34, 347), (35, 351)])
    t.E 16 = ⟨0, 0⟩ ∧ t.E 17 = ⟨0, 0⟩ ∧ t.E 18 = ⟨0, 0⟩ ∧ t.flags.zinv = true := by decide +kernel
theorem test_inv4 :
    let t := after (.inv4 8) (load base [(16, 100), (17, 200), (18, 300), (19, 50), (20, 3), (21, 4), (23, 1)])
    t.E 8 = ⟨25, 381⟩ ∧ t.E 9 = ⟨390, 366⟩ ∧ t.E 10 = ⟨207, 155⟩ ∧ t.E 11 = ⟨0, 430⟩ := by decide +kernel
theorem test_cset :
    (after (.cset 30 31) (load base [(62, 5), (63, 7)])).curve =
      ⟨⟨0, 0⟩, ⟨5, 7⟩, ⟨10, 14⟩, ⟨421, 417⟩, ⟨20, 28⟩⟩ := by decide +kernel
theorem test_cget : (after (.cget 4 5) base).E 4 = ⟨0, 0⟩ ∧ (after (.cget 4 5) base).E 5 = ⟨1, 0⟩ := by decide +kernel
theorem test_cget_alias : (after (.cget 4 4) base).errcode = .eAlias := by decide +kernel
theorem test_xdbl : (after (.xdbl 1 0) points).P 1 = ⟨⟨36, 0⟩, ⟨160, 0⟩⟩ := by decide +kernel
theorem test_xdbl_infinity : (after (.xdbl 1 0) (load base [(0, 1)])).P 1 = ⟨⟨4, 0⟩, ⟨0, 0⟩⟩ := by decide +kernel
theorem test_xtpl : (after (.xtpl 2 0) points).P 2 = ⟨⟨417, 0⟩, ⟨118, 0⟩⟩ := by decide +kernel
theorem test_xtpl_infinity : (after (.xtpl 2 0) (load base [(0, 1)])).P 2 = ⟨⟨32, 0⟩, ⟨0, 0⟩⟩ := by decide +kernel
theorem test_xadd : (after (.xadd 3 0 1 20) points).P 3 = ⟨⟨100, 0⟩, ⟨3, 0⟩⟩ := by decide +kernel
theorem test_xdbladd :
    let t := after (.xdbladd 0 1 20) points
    t.P 0 = ⟨⟨36, 0⟩, ⟨160, 0⟩⟩ ∧ t.P 1 = ⟨⟨100, 0⟩, ⟨3, 0⟩⟩ := by decide +kernel
theorem test_pcswap :
    let t := after (.pcswap 0 1) { points with sel := 1#32 }
    t.P 0 = ⟨⟨3, 0⟩, ⟨1, 0⟩⟩ ∧ t.P 1 = ⟨⟨2, 0⟩, ⟨1, 0⟩⟩ := by decide +kernel
theorem test_jinv : (after (.jinv 6) base).E 6 = ⟨4, 0⟩ := by decide +kernel
theorem test_jinv_after_config :
    let t := after (.jinv 6) { base with curve := .zero }
    t.E 6 = ⟨0, 0⟩ ∧ t.flags.zinv = true := by decide +kernel
theorem test_recova : (after (.recova 6 20 21 22) (load ladderInput [(44, 5)])).E 6 = ⟨213, 0⟩ := by decide +kernel
theorem test_recova_zero :
    let t := after (.recova 6 20 21 22) (load ladderInput [(40, 0)])
    t.E 6 = ⟨104, 0⟩ ∧ t.flags.zinv = true := by decide +kernel
theorem test_ladder : (after (.ladder 3 20 21 22) ladderInput).P 3 = ⟨⟨190, 0⟩, ⟨366, 0⟩⟩ := by decide +kernel
theorem test_ladder_count :
    (after (.ladder 3 20 21 22) { ladderInput with nbits := 0#16 }).P 3 = ⟨⟨2, 0⟩, ⟨1, 0⟩⟩ ∧
    (after (.ladder 3 20 21 22) { ladderInput with nbits := 128#16 }).errcode = .eNone ∧
    (after (.ladder 3 20 21 22) { ladderInput with nbits := 129#16 }).errcode = .eParam := by decide +kernel
theorem test_get3 :
    let t := after (.get3 1) kernel3
    t.curve = ⟨⟨336, 0⟩, ⟨0, 351⟩, ⟨84, 391⟩, ⟨84, 40⟩, ⟨0, 351⟩⟩ ∧
    t.coef = ⟨⟨430, 5⟩, ⟨1, 5⟩, ⟨0, 0⟩, ⟨0, 0⟩, ⟨0, 0⟩⟩ ∧ t.isoWord = 0x5#32 := by decide +kernel
theorem test_eval3 :
    let t := after (.eval3 2 0) (after (.get3 1) kernel3)
    t.P 2 = ⟨⟨70, 271⟩, ⟨347, 351⟩⟩ ∧ t.isoWord = 0x6#32 := by decide +kernel
theorem test_get4 :
    let t := after (.get4 1) kernel4
    t.curve = ⟨⟨372, 0⟩, ⟨4, 0⟩, ⟨95, 0⟩, ⟨91, 0⟩, ⟨4, 0⟩⟩ ∧
    t.coef = ⟨⟨4, 0⟩, ⟨430, 187⟩, ⟨1, 187⟩, ⟨0, 0⟩, ⟨0, 0⟩⟩ ∧ t.isoWord = 0x9#32 := by decide +kernel
theorem test_eval4 :
    let t := after (.eval4 2 0) (after (.get4 1) kernel4)
    t.P 2 = ⟨⟨320, 217⟩, ⟨351, 106⟩⟩ ∧ t.isoWord = 0xA#32 := by decide +kernel
theorem test_get4f :
    let t := after .get4f base
    t.curve = ⟨⟨12, 0⟩, ⟨429, 0⟩, ⟨8, 0⟩, ⟨16, 0⟩, ⟨423, 0⟩⟩ ∧
    t.coef = ⟨⟨1, 0⟩, ⟨429, 0⟩, ⟨0, 0⟩, ⟨0, 0⟩, ⟨0, 0⟩⟩ ∧ t.isoWord = 0xD#32 := by decide +kernel
theorem test_eval4_first :
    let t := after (.eval4 2 0) (after .get4f points)
    t.P 2 = ⟨⟨45, 0⟩, ⟨4, 0⟩⟩ ∧ t.isoWord = 0xE#32 := by decide +kernel

/-- The priority examples of 95_test_vectors.md 2.9. -/
theorem test_priority :
    (after (.cget 4 4) fresh).errcode = .eNocfg ∧ (after (.inv4 29) fresh).errcode = .eIllegal ∧
    (after (.xdbladd 0 0 20) (load base [(0, 500)])).errcode = .eAlias ∧
    (after (.fpcswap 1 2) { load base [(1, 500)] with sel := 2#32 }).errcode = .eSel ∧
    (after (.eval3 2 0) (load base [(0, 500)])).errcode = .eIsostate ∧
    (after (.ladder 3 20 21 22) { load base [(40, 500)] with nbits := 129#16 }).errcode = .eParam ∧
    (after (.fpadd 0 1 2) (load base [(1, 500), (2, 7)])).errcode = .eNoncanon := by decide +kernel

/-! The bus (95_test_vectors.md 2.10 and programs 1 and 4). -/

theorem test_read_csrs :
    fresh.memRead 0x000#16 .word = .data 0x53494443#32 ∧ fresh.memRead 0x004#16 .word = .data 1#32 ∧
    fresh.memRead 0x008#16 .word = .data 0x05200010#32 ∧ fresh.memRead 0x034#16 .word = .data 0#32 ∧
    fresh.memRead 0x014#16 .word = .data 0#32 ∧ fresh.memRead 0x8002#16 .word = .error := by decide +kernel

theorem test_bus_while_busy :
    running.memRead 0x8000#16 .word = .error ∧ running.writeResp 0x024#16 .word 0xF#4 = .error ∧
    running.memWrite 0x024#16 .word 0xF#4 1#32 = running ∧
    (running.memWrite 0x014#16 .word 0xF#4 0#32).statusWord = 0x19#32 ∧
    (running.memWrite 0x014#16 .word 0xF#4 0#32).lastcmd = 0x500D4556#32 := by decide +kernel

theorem test_write_status :
    ({ fresh with done := true, err := true, ovr := true }.memWrite 0x010#16 .word 0xF#4 0x16#32).statusWord = 0#32 := by
  decide +kernel

theorem test_write_f11_word3 : (base.memWrite 0x80BC#16 .word 0xF#4 0x1AE#32).F 11 = 430 := by decide +kernel
theorem test_write_mod : (base.memWrite 0x100C#16 .word 0xF#4 0x1AF#32).cfgOk = false := by decide +kernel

theorem test_slot_bytes :
    let t := load base [(0, 2 ^ 126), (12, 0xBE)]
    t.memRead 0x8000#16 .word = .data 0x40000000#32 ∧ t.memRead 0x80C8#16 .word = .data 0#32 ∧
    t.memRead 0x80CC#16 .word = .data 0xBE#32 ∧ t.readByte 0x80CF#16 = 0xBE#8 := by decide +kernel

theorem test_fetch_word_runs_first :
    (stateOf .reset (step (State.reset.withFetchWord 32 0x171401AF))).errcode = .eNocfg ∧
    (stateOf .reset (step (State.reset.withFetchWord 32 0))).statusWord = 0x2#32 := by decide +kernel

/-! Witnesses: the hypotheses of every statement hold together on a concrete state, and at the clauses' boundaries. -/

theorem witness_EncodeThenDecodeGivesTheCommand :
    (Instr.inv3 29).wf = true ∧ (Instr.inv4 28).wf = true ∧ (Instr.ladder 15 31 31 31).wf = true := by decide
theorem witness_DecodeThenEncodeGivesTheWord : decodeWord 0x32740000#32 = some (.inv3 29) := by decide +kernel
theorem witness_MaskAndMatchGiveTheLegalWords :
    (decodeWord 0x32740000#32).isSome = true ∧ (decodeWord 0x32780000#32).isSome = false ∧
    (decodeWord 0x33700000#32).isSome = true ∧ (decodeWord 0x33740000#32).isSome = false ∧
    (decodeWord 0x47780000#32).isSome = true := by decide +kernel

theorem witness_StepRunsTheDecodedCommand :
    completesNow ⟨0x500D4556#32, 0⟩ [] = true ∧ completesNow ⟨0x500D4556#32, 7⟩ [.wait] = true ∧
    decodeWord 0x500D4556#32 = some (.ladder 3 20 21 22) ∧
    decodeTableWord 32 0x500D4556 = some (.ladder 3 20 21 22) ∧
    running.inflight = some ⟨0x500D4556#32, 7⟩ ∧ completesNow ⟨0x500D4556#32, 7⟩ running.host = false ∧
    base.inflight = none := by decide +kernel

theorem witness_IllegalWordsCompleteAsIllegal :
    (base.accept 0xFF000000#32 0).inflight = some ⟨0xFF000000#32, 0⟩ ∧ completesNow ⟨0xFF000000#32, 0⟩ base.host = true ∧
    decodeWord 0xFF000000#32 = none ∧ (∀ r ∈ opcodeTable, opField 0x27000000#32 ≠ opField r.matchBits) ∧
    29 < (30 : EReg).val ∧ 28 < (29 : EReg).val := by decide +kernel

theorem witness_FirstFailingCheckDecidesTheCode :
    errorOf (.inv3 30) base = .eIllegal ∧ errorOf (.fpadd 3 1 2) fresh = .eNocfg ∧ errorOf (.cget 4 4) base = .eAlias ∧
    errorOf (.ladder 3 20 21 22) { base with nbits := 129#16 } = .eParam ∧
    errorOf (.fpcswap 1 2) { base with sel := 2#32 } = .eSel ∧ errorOf (.eval4 2 0) base = .eIsostate ∧
    errorOf (.fpadd 3 1 2) atModulus = .eNoncanon ∧ errorOf .config { base with mod := 435 } = .eBadmod ∧
    errorOf .nop fresh = .eNone := by
  have hc : base.cfgOk = true := rfl
  have hf : fresh.cfgOk = false := rfl
  have ha : atModulus.cfgOk = true := rfl
  have hm : ∀ r : FReg, atModulus.mod ≤ atModulus.F r := by decide +kernel
  have hw : base.slot.width = 128 := rfl
  have ht : base.iso.tag = .untagged := rfl
  have hb : acceptMod 128 435 = false := by decide +kernel
  refine ⟨?_, ?_, ?_, ?_, ?_, ?_, ?_, ?_, ?_⟩ <;>
    simp [errorOf, Instr.wf, usesField, aliases, usesCount, usesSelector, tagFails, sources, SelLegal, hc, hf, ha, hm, hw,
      ht, hb]

theorem witness_ErrorsArePrecise :
    (∃ t, exec (.fpadd 3 1 2) fresh = .next t ∧ t.errcode ≠ .eNone) ∧
    ∃ t, runWord 0xFF000000#32 base = .next t ∧ t.errcode ≠ .eNone :=
  ⟨⟨_, eq_next_stateOf fresh (by decide +kernel), by decide +kernel⟩,
   ⟨stateOf base (runWord 0xFF000000#32 base), eq_next_stateOf base (by decide +kernel), by decide +kernel⟩⟩

theorem witness_EveryCommandCompletes :
    (∃ t, exec (.fpadd 3 1 2) fresh = .next t ∧ t.errcode ≠ .eNone) ∧
    ∃ t, exec (.fpadd 3 1 2) base = .next t ∧ t.errcode = .eNone :=
  ⟨⟨_, eq_next_stateOf fresh (by decide +kernel), by decide +kernel⟩,
   ⟨_, eq_next_stateOf base (by decide +kernel), by decide +kernel⟩⟩

theorem witness_CommandFrame :
    (∃ t, exec (.fp2inv 2 1) xy = .next t ∧ t.flags.zinv = false) ∧ (6 : FReg) ∉ destinations (.fp2inv 2 1) ∧
    writesCurve (.fp2inv 2 1) = false ∧ writesCoef (.fp2inv 2 1) = false ∧ writesIso (.fp2inv 2 1) = false ∧
    writesTests (.fp2inv 2 1) = false ∧ writesZinv (.xdbl 1 0) = false ∧ Instr.fp2inv 2 1 ≠ .config :=
  ⟨⟨_, eq_next_stateOf xy (by decide +kernel), by decide +kernel⟩, by decide +kernel⟩

theorem witness_AddressSpaceFrame :
    ((∃ t, exec (.fpadd 3 1 2) base = .next t) ∧
      ([0x1000#16, 0x3000#16, 0x4000#16, 0x802F#16, 0x8040#16, 0xFFFF#16].all fun addr => decide (0x1000 ≤ addr.toNat ∧
        ∀ r ∈ destinations (.fpadd 3 1 2), addr.toNat < 0x8000 + r.val * base.slot.bytes ∨
          0x8000 + r.val * base.slot.bytes + base.slot.bytes ≤ addr.toNat)) = true) ∧
    ((∃ t, exec (.get3 1) kernel3 = .next t) ∧ destinations (.get3 1) = [] ∧ writesCurve (.get3 1) = true ∧
      writesCoef (.get3 1) = true ∧
      ∀ a ∈ [0x2FFF, 0x30A0, 0x3FFF, 0x40A0], outsideTenSlots 0x3000 kernel3.slot.bytes a ∧
        outsideTenSlots 0x4000 kernel3.slot.bytes a) :=
  ⟨⟨⟨after (.fpadd 3 1 2) base, eq_next_stateOf _ (by decide +kernel)⟩, by decide +kernel⟩,
   ⟨after (.get3 1) kernel3, eq_next_stateOf _ (by decide +kernel)⟩,
   by unfold outsideTenSlots; decide +kernel⟩

theorem witness_CommandCompletesAfterItsLatency :
    running.inflight = some ⟨0x500D4556#32, 7⟩ ∧ running.host = [] ∧
    (∃ t, core.run 0 running = .next t) ∧ ∃ t, core.run 7 running = .next t :=
  ⟨rfl, rfl, ⟨running, rfl⟩, ⟨stateOf running (core.run 7 running), eq_next_stateOf running (by decide +kernel)⟩⟩

theorem witness_OperandsAreStableWhileBusy :
    running.busy = true ∧
    ∀ e ∈ [HostEvent.write 0x100C#16 .word 0xF#4 7#32, .write 0x00C#16 .word 0xF#4 1#32, .write 0x014#16 .word 0xF#4 0#32,
        .read 0x010#16 .word, .idle, .wait, .rstRelease],
      e ≠ .rstAssert ∧ softResets e = false := by decide +kernel

/-- Two FP2ADDs with different fields and data, two LADDERs with different scalars, and two E_NOCFG completions. -/
theorem witness_LatencyIsDataIndependent :
    (opField 0x200C1080#32 = opField 0x20101080#32 ∧ opField 0x500D4556#32 = 0x50#8) ∧
    (xy.inReset = false ∧ xy.busy = false ∧ base.inReset = false ∧ base.busy = false) ∧
    (∃ t u, runWord 0x200C1080#32 xy = .next t ∧ runWord 0x20101080#32 base = .next u ∧ t.errcode = u.errcode ∧
      t.errcode = .eNone ∧ xy.slot = base.slot ∧ xy.pbits = base.pbits) ∧
    (∃ t u, runWord 0x500D4556#32 ladderInput = .next t ∧
      runWord 0x500D4556#32 { ladderInput with scalar := 2 ^ 128 - 1 } = .next u ∧ t.errcode = u.errcode ∧
      t.errcode = .eNone) ∧
    ∃ t u, runWord 0x200C1080#32 fresh = .next t ∧ runWord 0x20101080#32 State.reset = .next u ∧
      t.errcode = u.errcode ∧ t.errcode ≠ .eNone :=
  ⟨by decide +kernel, by decide +kernel,
   ⟨stateOf xy (runWord 0x200C1080#32 xy), stateOf base (runWord 0x20101080#32 base),
      eq_next_stateOf _ (by decide +kernel), eq_next_stateOf _ (by decide +kernel), by decide +kernel⟩,
   ⟨stateOf ladderInput (runWord 0x500D4556#32 ladderInput),
      stateOf ladderInput (runWord 0x500D4556#32 { ladderInput with scalar := 2 ^ 128 - 1 }),
      eq_next_stateOf _ (by decide +kernel), eq_next_stateOf _ (by decide +kernel), by decide +kernel⟩,
   ⟨stateOf fresh (runWord 0x200C1080#32 fresh), stateOf fresh (runWord 0x20101080#32 State.reset),
      eq_next_stateOf _ (by decide +kernel), eq_next_stateOf _ (by decide +kernel), by decide +kernel⟩⟩

/-- The base state meets the whole-machine invariant. -/
theorem base_soundCurve : SoundCurve base where
  left :=
    { widths :=
        { fFits := by decide +kernel, modFits := by decide +kernel, scalarFits := by decide +kernel
          curveFits := by unfold Safety.CurveBelow Safety.Below; decide +kernel
          coefFits := by unfold Safety.CoefBelow Safety.Below; decide +kernel
          pbitsFits := by decide +kernel }
      modAccepted := by decide +kernel
      pbitsOfMod := by decide +kernel
      curveCanonical := by unfold Safety.CurveBelow Safety.Below; decide +kernel
      coefCanonical := by unfold Safety.CoefBelow Safety.Below; decide +kernel
      isoTagged := by decide +kernel
      resetIdle := by decide +kernel }
  right := by unfold Safety.CurveConsistent; decide +kernel

theorem witness_EveryStepKeepsSound : Safety.Sound base ∧ ∃ t, step base = .next t := ⟨base_soundCurve.1, _, rfl⟩
theorem witness_EveryStepKeepsTheCurveConsistent : SoundCurve base ∧ ∃ t, step base = .next t := ⟨base_soundCurve, _, rfl⟩

theorem witness_SoftResetGivesColumnS :
    (running.busy = true ∧ softResets (.write 0x00C#16 .word 0xF#4 1#32) = false ∧
      softResets (.write 0x100C#16 .word 0xF#4 2#32) = false) ∧
    running.inReset = false ∧ (0x2#32).getLsbD 1 = true ∧ (0xFFFFFFFF#32).getLsbD 1 = true := by decide +kernel

theorem witness_InterruptIsDoneAndEnabled :
    (∃ t, runWord 0#32 { fresh with irqEn := true } = .next t ∧ t.irq = true) ∧
    (fresh.inReset = false ∧ fresh.busy = false ∧ (1#32).getLsbD 1 = false) :=
  ⟨⟨stateOf fresh (runWord 0#32 { fresh with irqEn := true }), eq_next_stateOf fresh (by decide +kernel),
    by decide +kernel⟩, by decide +kernel⟩

theorem witness_RegisterViewsShareStorage :
    ((0 : FReg).val ≠ 2 * (31 : EReg).val ∧ (0 : FReg).val ≠ 2 * (31 : EReg).val + 1) ∧
    (60 : FReg).val / 4 ≠ (0 : PReg).val ∧
    ((62 : FReg).val = 2 * (31 : EReg).val ∧ (63 : FReg).val = 2 * (31 : EReg).val + 1) ∧
    ((30 : EReg).val = 2 * (15 : PReg).val ∧ (31 : EReg).val = 2 * (15 : PReg).val + 1) := by decide

theorem witness_NopAndConfigComplete :
    acceptMod 128 (2 ^ 127 - 1) = true ∧ acceptMod 128 3 = true ∧ acceptMod 128 (2 ^ 128 - 1) = false ∧
    acceptMod 128 435 = false := by decide +kernel

theorem witness_AcceptIsTheStrongProbablePrimeTest :
    acceptMod 3 3 = true ∧ acceptMod 2 3 = false ∧ acceptMod 128 37 = false ∧ acceptMod 128 43 = true := by decide +kernel

theorem witness_EveryPrimeModulusIsAccepted :
    (Nat.Prime 431 ∧ 431 % 4 = 3 ∧ 431 < 2 ^ (128 - 1)) ∧ (Nat.Prime 3 ∧ 3 % 4 = 3 ∧ 3 < 2 ^ (3 - 1)) := by norm_num

/-- Every component at the modulus, the least value NeedsCanonical asks about, and just below it. -/
theorem atModulus_noncanonical : ∀ r : FReg, atModulus.mod ≤ atModulus.F r := by decide +kernel
theorem belowModulus_canonical : ∀ r : FReg, belowModulus.F r < belowModulus.mod := by decide +kernel

theorem witness_FpaddFpsubFpmulWriteTheModularResult :
    (belowModulus.cfgOk = true ∧ belowModulus.F 1 < belowModulus.mod ∧ belowModulus.F 2 < belowModulus.mod) ∧
    fresh.cfgOk = false ∧ (atModulus.cfgOk = true ∧ ∃ r ∈ [(1 : FReg), 2], atModulus.mod ≤ atModulus.F r) := by
  decide +kernel

theorem witness_FpsqrFpnegFpmovFpsetiWriteTheirResult :
    (belowModulus.cfgOk = true ∧ belowModulus.F 1 < belowModulus.mod) ∧ base.F 1 = 0 ∧ fresh.cfgOk = false ∧
    (atModulus.cfgOk = true ∧ ∃ r ∈ [(1 : FReg)], atModulus.mod ≤ atModulus.F r) := by decide +kernel

theorem witness_Fpdiv2WritesTheHalf :
    (belowModulus.cfgOk = true ∧ belowModulus.mod % 2 = 1 ∧ belowModulus.F 1 < belowModulus.mod) ∧ fresh.cfgOk = false ∧
    (atModulus.cfgOk = true ∧ ∃ r ∈ [(1 : FReg)], atModulus.mod ≤ atModulus.F r) := by decide +kernel

/-- The three kinds of selector: 0, 1 and the least illegal one. -/
theorem selectors : base.sel = 0#32 ∧ SelLegal base ∧ { base with sel := 1#32 }.sel = 1#32 ∧
    SelLegal { base with sel := 1#32 } ∧ ¬SelLegal { base with sel := 2#32 } := by
  unfold SelLegal; decide +kernel

theorem witness_FpcswapFpcselFollowTheSelector :
    (base.cfgOk = true ∧ base.F 1 < base.mod ∧ base.F 2 < base.mod ∧ base.sel = 0#32) ∧
    { base with sel := 1#32 }.sel = 1#32 ∧ ¬SelLegal { base with sel := 2#32 } ∧ fresh.cfgOk = false ∧
    (SelLegal atModulus ∧ atModulus.cfgOk = true ∧ ∃ r ∈ [(1 : FReg), 2], atModulus.mod ≤ atModulus.F r) := by
  unfold SelLegal; decide +kernel

theorem witness_FptestComparesIntegers :
    (belowModulus.cfgOk = true ∧ belowModulus.F 1 < belowModulus.mod ∧ belowModulus.F 2 < belowModulus.mod) ∧
    fresh.cfgOk = false ∧ (atModulus.cfgOk = true ∧ ∃ r ∈ [(1 : FReg), 2], atModulus.mod ≤ atModulus.F r) := by
  decide +kernel

/-- The GF(p^2) commands' hypotheses: canonical operands, an operand at the modulus, and an unconfigured CORE. -/
theorem gfp2_hypotheses :
    (xy.cfgOk = true ∧ Canonical xy (EReg.comps 1 ++ EReg.comps 2)) ∧
    (belowModulus.cfgOk = true ∧ Canonical belowModulus (EReg.comps 1 ++ EReg.comps 2)) ∧
    (atModulus.cfgOk = true ∧ ∃ r ∈ EReg.comps 1 ++ EReg.comps 2, atModulus.mod ≤ atModulus.F r) ∧
    fresh.cfgOk = false := by unfold Canonical; decide +kernel

theorem witness_Fp2addFp2subFp2negFp2movWriteTheirResult :
    (xy.cfgOk = true ∧ Canonical xy (EReg.comps 1 ++ EReg.comps 2) ∧ Canonical xy (EReg.comps 1)) ∧
    (∃ r ∈ EReg.comps 1, atModulus.mod ≤ atModulus.F r) ∧ fresh.cfgOk = false := by unfold Canonical; decide +kernel

theorem witness_Fp2mulFp2sqrFp2div2WriteTheirResult :
    (xy.cfgOk = true ∧ Canonical xy (EReg.comps 1 ++ EReg.comps 2) ∧ Canonical xy (EReg.comps 1) ∧ xy.mod % 2 = 1) ∧
    (∃ r ∈ EReg.comps 1, atModulus.mod ≤ atModulus.F r) ∧ fresh.cfgOk = false := by unfold Canonical; decide +kernel

theorem witness_Fp2cswapFp2cselFollowTheSelector :
    (xy.cfgOk = true ∧ Canonical xy (EReg.comps 1 ++ EReg.comps 2) ∧ xy.sel = 0#32) ∧
    ({ xy with sel := 1#32 }.sel = 1#32 ∧ Canonical { xy with sel := 1#32 } (EReg.comps 1 ++ EReg.comps 2)) ∧
    ¬SelLegal { xy with sel := 2#32 } ∧ SelLegal atModulus ∧
    (∃ r ∈ EReg.comps 1 ++ EReg.comps 2, atModulus.mod ≤ atModulus.F r) ∧ fresh.cfgOk = false := by
  unfold Canonical SelLegal; decide +kernel

theorem witness_Fp2testComparesComponents :
    (xy.cfgOk = true ∧ Canonical xy (EReg.comps 1 ++ EReg.comps 2)) ∧
    (∃ r ∈ EReg.comps 1 ++ EReg.comps 2, atModulus.mod ≤ atModulus.F r) ∧ fresh.cfgOk = false := by
  unfold Canonical; decide +kernel

theorem witness_FpinvFp2invWriteTheFermatInverse :
    (base.cfgOk = true ∧ base.F 1 = 0 ∧ base.F 1 < base.mod) ∧ (belowModulus.F 1 < belowModulus.mod) ∧
    Canonical xy (EReg.comps 1) ∧ (∃ r ∈ [(1 : FReg)], atModulus.mod ≤ atModulus.F r) ∧
    (∃ r ∈ EReg.comps 1, atModulus.mod ≤ atModulus.F r) ∧ fresh.cfgOk = false := by unfold Canonical; decide +kernel

/-- INV3 at its largest d, 29, and INV4 at its largest, 28. -/
theorem witness_Inv3Inv4WriteTheBatchInverse :
    ((30 : EReg).val = (29 : EReg).val + 1 ∧ (31 : EReg).val = (29 : EReg).val + 2 ∧ belowModulus.cfgOk = true ∧
      Canonical belowModulus (EReg.comps 29 ++ EReg.comps 30 ++ EReg.comps 31)) ∧
    ((29 : EReg).val = (28 : EReg).val + 1 ∧ (30 : EReg).val = (28 : EReg).val + 2 ∧
      (31 : EReg).val = (28 : EReg).val + 3 ∧
      Canonical belowModulus (EReg.comps 28 ++ EReg.comps 29 ++ EReg.comps 30 ++ EReg.comps 31)) := by
  unfold Canonical; decide +kernel

theorem witness_InversesInvertModuloAPrime :
    Nat.Prime 431 ∧ 431 % 4 = 3 ∧ (0 < 1 ∧ 1 < 431) ∧ (0 < 430 ∧ 430 < 431) ∧
    Safety.Below 431 ⟨0, 430⟩ ∧ (⟨0, 430⟩ : Gfp2) ≠ ⟨0, 0⟩ := by
  refine ⟨by norm_num, by norm_num, by norm_num, by norm_num, ?_, by decide⟩
  unfold Safety.Below; decide

theorem witness_BatchInverseEqualsTheSingleInverses :
    Nat.Prime 431 ∧ 431 % 4 = 3 ∧ Safety.Below 431 ⟨100, 200⟩ ∧ Safety.Below 431 ⟨0, 0⟩ ∧
    (⟨100, 200⟩ : Gfp2) ≠ ⟨0, 0⟩ ∧ (⟨0, 0⟩ : Gfp2) ∈ [⟨100, 200⟩, ⟨0, 0⟩, ⟨300, 50⟩] ∧
    (⟨0, 0⟩ : Gfp2) ∈ [⟨100, 200⟩, ⟨300, 50⟩, ⟨3, 4⟩, ⟨0, 0⟩] := by
  refine ⟨by norm_num, by norm_num, ?_, ?_, by decide, by decide, by decide⟩ <;> (unfold Safety.Below; decide)

theorem witness_CsetCgetMoveTheCurve :
    (base.cfgOk = true ∧ Canonical base (EReg.comps 30 ++ EReg.comps 31)) ∧ (4 : EReg) ≠ 5 ∧
    (∃ r ∈ EReg.comps 30 ++ EReg.comps 31, atModulus.mod ≤ atModulus.F r) ∧ fresh.cfgOk = false := by
  unfold Canonical; decide +kernel

theorem witness_XdblXaddXdbladdWriteTheirPoints :
    (points.cfgOk = true ∧ Canonical points (PReg.comps 0) ∧ (0 : PReg) ≠ 1 ∧
      Canonical points (PReg.comps 0 ++ PReg.comps 1 ++ EReg.comps 20)) ∧
    (∃ r ∈ PReg.comps 0, atModulus.mod ≤ atModulus.F r) ∧
    (∃ r ∈ PReg.comps 0 ++ PReg.comps 1 ++ EReg.comps 20, atModulus.mod ≤ atModulus.F r) ∧ fresh.cfgOk = false := by
  unfold Canonical; decide +kernel

theorem witness_XtplWritesTheTriple :
    (points.cfgOk = true ∧ Canonical points (PReg.comps 0)) ∧
    (∃ r ∈ PReg.comps 0, atModulus.mod ≤ atModulus.F r) ∧ fresh.cfgOk = false := by unfold Canonical; decide +kernel

theorem witness_PcswapFollowsTheSelector :
    (points.cfgOk = true ∧ Canonical points (PReg.comps 0 ++ PReg.comps 1) ∧ points.sel = 0#32) ∧
    ({ points with sel := 1#32 }.sel = 1#32 ∧ Canonical { points with sel := 1#32 } (PReg.comps 0 ++ PReg.comps 1)) ∧
    ¬SelLegal { points with sel := 2#32 } ∧ SelLegal atModulus ∧
    (∃ r ∈ PReg.comps 0 ++ PReg.comps 1, atModulus.mod ≤ atModulus.F r) ∧ fresh.cfgOk = false := by
  unfold Canonical SelLegal; decide +kernel

theorem witness_JinvRecovaWriteTheirValue :
    (base.cfgOk = true ∧ 0 < base.mod) ∧
    Canonical ladderInput (EReg.comps 20 ++ EReg.comps 21 ++ EReg.comps 22) ∧
    (∃ r ∈ EReg.comps 20 ++ EReg.comps 21 ++ EReg.comps 22, atModulus.mod ≤ atModulus.F r) ∧ fresh.cfgOk = false := by
  unfold Canonical; decide +kernel

/-- NBITS at 0, at W and one above it. -/
theorem witness_LadderWritesTheThreePointLadder :
    (ladderInput.cfgOk = true ∧ Canonical ladderInput (EReg.comps 20 ++ EReg.comps 21 ++ EReg.comps 22)) ∧
    { ladderInput with nbits := 0#16 }.nbits.toNat ≤ ladderInput.slot.width ∧
    { ladderInput with nbits := 128#16 }.nbits.toNat ≤ ladderInput.slot.width ∧
    ladderInput.slot.width < { ladderInput with nbits := 129#16 }.nbits.toNat ∧
    (atModulus.nbits.toNat ≤ atModulus.slot.width ∧
      ∃ r ∈ EReg.comps 20 ++ EReg.comps 21 ++ EReg.comps 22, atModulus.mod ≤ atModulus.F r) ∧
    fresh.cfgOk = false := by unfold Canonical; decide +kernel

theorem witness_LadderSchedulesAgree : 0 < base.mod ∧ 0 < 1 := by decide +kernel
theorem witness_LadderUsesTheLowScalarBits : 1 < base.mod ∧ 5 % 2 ^ 2 ≠ 5 := by decide +kernel

theorem witness_Get3Eval3FollowTheThreeIsogeny :
    (kernel3.cfgOk = true ∧ Canonical kernel3 (PReg.comps 1)) ∧
    ((after (.get3 1) kernel3).cfgOk = true ∧ (after (.get3 1) kernel3).iso.tag = .deg3 ∧
      Canonical (after (.get3 1) kernel3) (PReg.comps 0)) ∧
    (base.iso.tag ≠ .deg3) ∧ (∃ r ∈ PReg.comps 1, atModulus.mod ≤ atModulus.F r) ∧ fresh.cfgOk = false := by
  unfold Canonical; decide +kernel

theorem witness_Get4Eval4FollowTheFourIsogeny :
    (kernel4.cfgOk = true ∧ Canonical kernel4 (PReg.comps 1)) ∧
    ((after (.get4 1) kernel4).cfgOk = true ∧ (after (.get4 1) kernel4).iso.tag = .deg4 ∧
      Canonical (after (.get4 1) kernel4) (PReg.comps 0)) ∧
    (base.iso.tag ≠ .deg4 ∧ base.iso.tag ≠ .deg4f) ∧ (∃ r ∈ PReg.comps 1, atModulus.mod ≤ atModulus.F r) ∧
    fresh.cfgOk = false := by unfold Canonical; decide +kernel

theorem witness_Get4fEval4FollowTheFirstFourIsogeny :
    (base.cfgOk = true ∧ 0 < base.mod) ∧
    ((after .get4f points).cfgOk = true ∧ (after .get4f points).iso.tag = .deg4f ∧
      Canonical (after .get4f points) (PReg.comps 0)) ∧ fresh.cfgOk = false := by unfold Canonical; decide +kernel

theorem witness_IsogenyKernelLaw :
    (∃ t u, exec (.get3 1) kernel3 = .next t ∧ t.errcode = .eNone ∧ exec (.eval3 2 1) t = .next u) ∧
    (∃ t u, exec (.get4 1) kernel4 = .next t ∧ t.errcode = .eNone ∧ exec (.eval4 2 1) t = .next u) ∧
    ∃ t u, exec .get4f (load base [(0, 1), (2, 1)]) = .next t ∧ t.errcode = .eNone ∧ 1 < t.mod ∧
      t.P 0 = ⟨⟨1, 0⟩, ⟨1, 0⟩⟩ ∧ exec (.eval4 2 0) t = .next u :=
  ⟨⟨after (.get3 1) kernel3, after (.eval3 2 1) (after (.get3 1) kernel3), eq_next_stateOf _ (by decide +kernel),
      by decide +kernel, eq_next_stateOf _ (by decide +kernel)⟩,
   ⟨after (.get4 1) kernel4, after (.eval4 2 1) (after (.get4 1) kernel4), eq_next_stateOf _ (by decide +kernel),
      by decide +kernel, eq_next_stateOf _ (by decide +kernel)⟩,
   ⟨after .get4f (load base [(0, 1), (2, 1)]), after (.eval4 2 0) (after .get4f (load base [(0, 1), (2, 1)])),
      eq_next_stateOf _ (by decide +kernel), by decide +kernel, by decide +kernel, by decide +kernel,
      eq_next_stateOf _ (by decide +kernel)⟩⟩

/-- The first and the last word of the MOD, the SCALAR and the F slots. -/
theorem witness_SlotWordsReadBackAsWritten :
    (base.target 0x309C#16 = .curveWord 9 3 ∧ base.target 0x4000#16 = .coefWord 0 0 ∧ base.target 0x30A0#16 = .reserved) ∧
    base.inReset = false ∧ base.busy = false ∧
    (base.target 0x1000#16 = .modWord 0 ∧ base.target 0x100C#16 = .modWord 3) ∧
    (base.target 0x2000#16 = .scalarWord 0 ∧ base.target 0x200C#16 = .scalarWord 3) ∧
    (base.target 0x8000#16 = .fWord 0 0 ∧ base.target 0x83FC#16 = .fWord 63 3) ∧
    (∀ k, base.target 0x2000#16 ≠ .modWord k) ∧
    (0x1000#16).toNat % 4 = 0 ∧ (0x200C#16).toNat % 4 = 0 ∧ (0x83FC#16).toNat % 4 = 0 := by
  have h : base.target 0x2000#16 = .scalarWord 0 := by decide +kernel
  refine ⟨by decide +kernel, by decide +kernel, by decide +kernel, by decide +kernel, by decide +kernel,
    by decide +kernel, ?_, by decide +kernel⟩
  intro k; rw [h]; simp

theorem witness_BusErrorsChangeNothing :
    ((0x8002#16).toNat % 4 ≠ 0 ∧ AccessKind.half ≠ .word ∧ (0x7#4) ≠ 0xF#4) ∧
    base.writeResp 0x8002#16 .word 0xF#4 = .error ∧ base.writeResp 0x8000#16 .word 0x7#4 = .error := by decide +kernel

theorem witness_BusyBlocksTheWindows :
    running.inReset = false ∧ running.busy = true ∧
    ([0x1000#16, 0x2000#16, 0x3000#16, 0x309C#16, 0x4000#16, 0x8000#16, 0x83FC#16].all fun a =>
      decide (a.toNat % 4 = 0 ∧ (running.target a).isSlot = true)) = true ∧
    ([0x1010#16, 0x30A0#16, 0x8400#16, 0x100#16].all fun a =>
      decide (a.toNat % 4 = 0 ∧ running.target a = .reserved)) = true := by
  decide +kernel

theorem witness_CmdWritesAreAcceptedWhileIdle :
    (base.inReset = false ∧ base.busy = false ∧ decodeWord 0x01000000#32 = some .config) ∧
    running.inReset = false ∧ running.busy = true := by decide +kernel

theorem witness_CsrWritesChangeTheirFields :
    (base.inReset = false ∧ base.busy = false ∧ (0x1#32).getLsbD 1 = false) ∧
    (0x034 ≤ (0x034#16).toNat ∧ (0xFFC#16).toNat < 0x1000) := by decide +kernel

theorem witness_CsrReadsShowTheirFields :
    base.inReset = false ∧ base.pbits < 2 ^ 16 ∧
    ((.eNone, 0x00#32) ∈ errorNumbers ∧ base.errcode = .eNone) ∧
    ((.eParam, 0x08#32) ∈ errorNumbers ∧ { base with errcode := .eParam }.errcode = .eParam) ∧
    ((.uncomputed, 0#2) ∈ stNumbers ∧ (.untagged, 0#2) ∈ tagNumbers ∧ base.iso = ⟨.uncomputed, .untagged⟩) ∧
    ((.evaluated, 2#2) ∈ stNumbers ∧ (.deg4f, 3#2) ∈ tagNumbers ∧
      { base with iso := ⟨.evaluated, .deg4f⟩ }.iso = ⟨.evaluated, .deg4f⟩) ∧
    ([0x034#16, 0x0FC#16, 0x100#16, 0xFFC#16].all fun a =>
      decide (a.toNat % 4 = 0 ∧ 0x034 ≤ a.toNat ∧ a.toNat < 0x1000)) = true := by
  decide +kernel

/-- SLOT_BYTES at both ends of its range: the last byte of a slot, the last slot of the F window, and the first address
after each window. -/
theorem witness_AddressMapPlacesTheSlots :
    (7 < SlotBytes.s8.bytes ∧ 255 < SlotBytes.s256.bytes) ∧
    targetOf 256 (0x8000 + 63 * 256 + 255) = .fWord 63 63 ∧ targetOf 256 (0x8000 + 64 * 256) = .reserved ∧
    targetOf 256 (0x3000 + 9 * 256 + 255) = .curveWord 9 63 ∧ targetOf 256 (0x3000 + 10 * 256) = .reserved ∧
    targetOf 8 0x1007 = .modWord 1 ∧ targetOf 8 0x1008 = .reserved ∧ targetOf 8 0xFF = .csr 0xFF ∧
    targetOf 8 0x100 = .reserved := by decide +kernel

theorem witness_SlotsAreBigEndian :
    (0 < base.slot.bytes ∧ 15 < base.slot.bytes) ∧ base.readByte 0x100E#16 = 0x01#8 ∧ base.readByte 0x100F#16 = 0xAF#8 ∧
    base.readByte 0x3010#16 = 0x00#8 ∧ base.readByte 0x302F#16 = 0x01#8 ∧ base.readByte 0x304F#16 = 0x02#8 := by
  decide +kernel

/-- An idle CORE and a busy one, with and without an event of the host. -/
theorem witness_HostEventsAreServedInOrder :
    (base.inflight = none ∧ base.host = []) ∧
    (running.inflight = some ⟨0x500D4556#32, 7⟩ ∧ completesNow ⟨0x500D4556#32, 7⟩ running.host = false) ∧
    (completesNow ⟨0x500D4556#32, 7⟩ [.read 0x010#16 .word, .wait] = false ∧
      { running with host := [.read 0x010#16 .word, .wait] }.host = HostEvent.read 0x010#16 .word :: [.wait]) := by
  decide +kernel

/-- Two events on an idle CORE: the SEL write is served first, the SEL read after it sees it. -/
theorem test_host_events_in_order :
    let s := { base with host := [.write 0x024#16 .word 0xF#4 1#32, .read 0x024#16 .word] }
    (stateOf s (step s)).sel = 1#32 ∧ (stateOf s (step s)).host = [.read 0x024#16 .word] ∧
    (stateOf s (step (stateOf s (step s)))).resp = some (.data 1#32) := by decide +kernel

end Sys2Proof.Tests
end

section
/-! The frame of every command: what a command's rule does not name keeps its value. The frame is a
relation between the state before and the state after; every named update of the state stays within it as long as the
command's tables of destinations and writes allow that update, so a command's frame is read off its meaning. -/

namespace Sys2Proof.Machine
open Sys2Proof.Claims

/-- The command `i` may take `s` to `t` as far as its tables go: `t` differs from `s` only in what `i` writes and in the
completion record, and no command but CONFIG clears ZINV (R110, R116, R120, R601, R926, R1010). -/
structure WithinFrame (i : Instr) (s t : State) : Prop where
  regs : ∀ r : FReg, r ∉ destinations i → t.F r = s.F r
  curve : writesCurve i = false → t.curve = s.curve
  coef : writesCoef i = false → t.coef = s.coef
  iso : writesIso i = false → t.iso = s.iso
  tests : writesTests i = false → t.flags.eq = s.flags.eq ∧ t.flags.lt = s.flags.lt ∧ t.flags.odd = s.flags.odd
  zinv : writesZinv i = false → t.flags.zinv = s.flags.zinv
  zinv_sticky : i ≠ .config → t.flags.zinv = false → s.flags.zinv = false
  configured : i ≠ .config → t.cfgOk = s.cfgOk ∧ t.pbits = s.pbits
  mod : t.mod = s.mod
  scalar : t.scalar = s.scalar
  sel : t.sel = s.sel
  nbits : t.nbits = s.nbits
  irqEn : t.irqEn = s.irqEn
  ovr : t.ovr = s.ovr
  lastcmd : t.lastcmd = s.lastcmd
  slot : t.slot = s.slot
  inReset : t.inReset = s.inReset
  host : t.host = s.host
  resp : t.resp = s.resp
  resets : t.resets = s.resets

namespace WithinFrame

theorem refl (i : Instr) (s : State) : WithinFrame i s s := by
  constructor <;> simp

/-! Each update asks that the command's table allows it; for a given command the table itself decides that, so a chain of
updates is written without its side conditions. -/

section
variable {i : Instr} {s u : State} (h : WithinFrame i s u)
include h

theorem finish (c : ErrCode) : WithinFrame i s (u.finish c) := { h with }

theorem setF {d : FReg} {v : Nat} (hd : d ∈ destinations i := by simp [destinations]) : WithinFrame i s (u.setF d v) :=
  { h with
    regs := fun r hr => by
      have hne : r ≠ d := fun e => hr (e ▸ hd)
      rw [State.setF_F_ne _ _ hne, h.regs r hr] }

theorem setE {d : EReg} {v : Gfp2}
    (hd : EReg.comps d ⊆ destinations i := by intro r hr; simp [destinations, hr]) :
    WithinFrame i s (u.setE d v) :=
  (h.setF (hd (by simp [EReg.comps]))).setF (hd (by simp [EReg.comps]))

theorem setP {d : PReg} {v : Point} (hd : PReg.comps d ⊆ destinations i := by simp [destinations]) :
    WithinFrame i s (u.setP d v) :=
  (h.setE fun _ hx => hd (List.mem_append_left _ hx)).setE fun _ hx => hd (List.mem_append_right _ hx)

theorem setCurve {c : CurveRegs} (hw : writesCurve i = true := by rfl) : WithinFrame i s (u.setCurve c) :=
  { h with curve := by simp [hw] }

theorem setCoef {c : CoefRegs} (hw : writesCoef i = true := by rfl) : WithinFrame i s (u.setCoef c) :=
  { h with coef := by simp [hw] }

theorem setIso {x : Iso} (hw : writesIso i = true := by rfl) : WithinFrame i s (u.setIso x) :=
  { h with iso := by simp [hw] }

/-- A test's flags: EQ, LT and ODD are written and ZINV is kept (R460, R560). -/
theorem setTests {g : Flags} (hg : g.zinv = u.flags.zinv) (hw : writesTests i = true := by rfl) :
    WithinFrame i s (u.setFlags g) :=
  { h with
    tests := by simp [hw]
    zinv := fun hz => hg.trans (h.zinv hz)
    zinv_sticky := fun hi hz => h.zinv_sticky hi (hg.symm.trans hz) }

/-- An inverse command may set ZINV, and never clears it (R601). -/
theorem noteInverse {n : Nat} (hw : writesZinv i = true := by rfl) : WithinFrame i s (u.noteInverse n) :=
  { h with
    zinv := by simp [hw]
    zinv_sticky := fun hi hz => h.zinv_sticky hi (Bool.or_eq_false_iff.mp hz).1 }

end

/-- CONFIG's effect (R401): CFG_OK, PBITS, the curve, COEF, ISO and FLAGS are its own to write, and it writes no
other register. -/
theorem configure (s : State) (bits : Nat) (c : CurveRegs) (k : CoefRegs) (x : Iso) (g : Flags) :
    WithinFrame .config s (((((s.setConfigured bits).setCurve c).setCoef k).setIso x).setFlags g) := by
  constructor <;> simp [writesCurve, writesCoef, writesIso, writesTests, writesZinv]

/-- A command stays within its frame when its effect does: an error completion commits nothing (R1005). -/
theorem of_command {i : Instr} {c : Checks} {effect s t : State} (h : command c effect s = .next t)
    (he : WithinFrame i s effect) : WithinFrame i s t := by
  obtain ⟨-, rfl⟩ | ⟨-, rfl⟩ := command_next h
  · exact he.finish _
  · exact (refl i s).finish _

end WithinFrame

open WithinFrame in
/-- Every command stays within its frame: the effect of each is a chain of updates that its tables allow. -/
theorem exec_withinFrame {i : Instr} {s t : State} (h : exec i s = .next t) : WithinFrame i s t := by
  have start := refl i s
  cases i with
  | nop => exact of_command (c := { needsCfg := false }) h start
  | config => exact of_command h (configure ..)
  | fpadd | fpsub | fpmul | fpsqr | fpneg | fpdiv2 | fpmov | fpseti | fpcsel => exact of_command h start.setF
  | fpcswap => exact of_command h start.setF.setF
  | fp2add | fp2sub | fp2mul | fp2sqr | fp2neg | fp2div2 | fp2mov | fp2csel => exact of_command h start.setE
  | fp2cswap | cget => exact of_command h start.setE.setE
  | fptest | fp2test => exact of_command h (start.setTests rfl)
  | fpinv => exact of_command h start.setF.noteInverse
  | fp2inv | jinv | recova => exact of_command h start.setE.noteInverse
  | inv3 => exact of_command h start.setE.setE.setE.noteInverse
  | inv4 => exact of_command h start.setE.setE.setE.setE.noteInverse
  | cset => exact of_command h start.setCurve.setIso
  | xdbl | xtpl | xadd | ladder => exact of_command h start.setP
  | xdbladd | pcswap => exact of_command h start.setP.setP
  | get3 | get4 | get4f => exact of_command h start.setCurve.setCoef.setIso
  | eval3 | eval4 => exact of_command h start.setP.setIso

end Sys2Proof.Machine

namespace Sys2Proof.Proofs
open Sys2Proof.Machine

/-- Settles O10: the frame of `exec_withinFrame`, clause by clause. -/
theorem commandFrame : Obligations.CommandFrame := by
  intro i s t h
  have w := exec_withinFrame h
  exact ⟨w.regs, w.curve, w.coef, w.iso, w.tests, w.zinv, w.zinv_sticky, w.configured, w.mod, w.scalar, w.sel, w.nbits,
    w.irqEn, w.ovr, w.lastcmd, w.slot, w.inReset, w.host, w.resp, w.resets⟩

end Sys2Proof.Proofs
end

section
/-! The address map of 20_memory.md R220, both ways: each address of a slot names that slot's word, and a word-aligned
address is determined by what it names. -/

namespace Sys2Proof.Machine

theorem SlotBytes.bytes_le (b : SlotBytes) : b.bytes ≤ 256 := by cases b <;> decide
theorem SlotBytes.bytes_pos (b : SlotBytes) : 0 < b.bytes := by cases b <;> decide
theorem SlotBytes.four_dvd_bytes (b : SlotBytes) : 4 ∣ b.bytes := by cases b <;> decide

section
variable {S o : Nat} (ho : o < S)
include ho

/-- Byte o of slot j of a window of n slots names the slot's word o/4: the slot's number and the byte's are the quotient
and the remainder by S. -/
theorem slot_of_window {n : Nat} (f : Fin n → Nat → Target) (base : Nat) (j : Fin n) :
    (if h : (base + j.val * S + o - base) / S < n then f ⟨(base + j.val * S + o - base) / S, h⟩
      ((base + j.val * S + o - base) % S / 4) else .reserved) = f j (o / 4) := by
  have hx : base + j.val * S + o - base = o + j.val * S := by omega
  have hq : (o + j.val * S) / S = j.val := by
    rw [Nat.add_mul_div_right _ _ (by omega), Nat.div_eq_of_lt ho, Nat.zero_add]
  have hr : (o + j.val * S) % S = o := by rw [Nat.add_mul_mod_self_right, Nat.mod_eq_of_lt ho]
  simp [hx, hq, hr]

variable (hS : S ≤ 256)
include hS

theorem targetOf_modSlot : targetOf S (0x1000 + o) = .modWord (o / 4) := by
  rw [targetOf, if_neg (by omega), if_neg (by omega), if_pos (by omega), if_pos (by omega), Nat.add_sub_cancel_left]

theorem targetOf_scalarSlot : targetOf S (0x2000 + o) = .scalarWord (o / 4) := by
  rw [targetOf, if_neg (by omega), if_neg (by omega), if_neg (by omega), if_pos (by omega), if_pos (by omega),
    Nat.add_sub_cancel_left]

theorem targetOf_curveSlot (j : Fin 10) : targetOf S (0x3000 + j.val * S + o) = .curveWord j (o / 4) := by
  have hj : j.val * S ≤ 9 * 256 := Nat.mul_le_mul (by omega) hS
  rw [targetOf, if_neg (by omega), if_neg (by omega), if_neg (by omega), if_neg (by omega), if_pos (by omega)]
  exact slot_of_window ho .curveWord 0x3000 j

theorem targetOf_coefSlot (j : Fin 10) : targetOf S (0x4000 + j.val * S + o) = .coefWord j (o / 4) := by
  have hj : j.val * S ≤ 9 * 256 := Nat.mul_le_mul (by omega) hS
  rw [targetOf, if_neg (by omega), if_neg (by omega), if_neg (by omega), if_neg (by omega), if_neg (by omega),
    if_pos (by omega)]
  exact slot_of_window ho .coefWord 0x4000 j

theorem targetOf_fSlot (i : FReg) : targetOf S (0x8000 + i.val * S + o) = .fWord i (o / 4) := by
  rw [targetOf, if_neg (by omega), if_neg (by omega), if_neg (by omega), if_neg (by omega), if_neg (by omega),
    if_neg (by omega), if_neg (by omega)]
  exact slot_of_window ho .fWord 0x8000 i

end

/-- An address past the last slot of its window names none. -/
theorem not_slot_of_le {S n base a : Nat} (hS : 0 < S) (h : base + n * S ≤ a) : ¬ (a - base) / S < n := by
  rw [not_lt, Nat.le_div_iff_mul_le hS]
  omega

/-- The addresses of R220 that name nothing: above the CSR page, and the tail of each window. -/
theorem targetOf_reserved {S a : Nat} (hS : 0 < S)
    (h : (0x100 ≤ a ∧ a < 0x1000) ∨ (0x1000 + S ≤ a ∧ a < 0x2000) ∨ (0x2000 + S ≤ a ∧ a < 0x3000) ∨
      (0x3000 + 10 * S ≤ a ∧ a < 0x4000) ∨ (0x4000 + 10 * S ≤ a ∧ a < 0x8000) ∨ 0x8000 + 64 * S ≤ a) :
    targetOf S a = .reserved := by
  unfold targetOf
  rcases h with h | h | h | h | h | h
  · rw [if_neg (by omega), if_pos (by omega)]
  · rw [if_neg (by omega), if_neg (by omega), if_pos (by omega), if_neg (by omega)]
  · rw [if_neg (by omega), if_neg (by omega), if_neg (by omega), if_pos (by omega), if_neg (by omega)]
  · rw [if_neg (by omega), if_neg (by omega), if_neg (by omega), if_neg (by omega), if_pos (by omega),
      dif_neg (not_slot_of_le hS h.1)]
  · rw [if_neg (by omega), if_neg (by omega), if_neg (by omega), if_neg (by omega), if_neg (by omega),
      dif_neg (not_slot_of_le hS h.1), if_pos h.2, ite_self]
  · rw [if_neg (by omega), if_neg (by omega), if_neg (by omega), if_neg (by omega), if_neg (by omega), if_neg (by omega),
      if_neg (by omega), dif_neg (not_slot_of_le hS h)]

/-- Where a word-aligned address lies that names this target: word k of a slot is at 4k from the slot's start and ends
within the slot (R220). -/
def Target.PlacedAt (S a : Nat) : Target → Prop
  | .csr off => a = off ∧ a < 0x100
  | .modWord k => a = 0x1000 + 4 * k ∧ 4 * k + 4 ≤ S
  | .scalarWord k => a = 0x2000 + 4 * k ∧ 4 * k + 4 ≤ S
  | .curveWord j k => a = 0x3000 + j.val * S + 4 * k ∧ 4 * k + 4 ≤ S
  | .coefWord j k => a = 0x4000 + j.val * S + 4 * k ∧ 4 * k + 4 ≤ S
  | .fWord i k => a = 0x8000 + i.val * S + 4 * k ∧ 4 * k + 4 ≤ S
  | .reserved => True

/-- An aligned offset in a window splits into its slot's start and its word's. -/
theorem window_offset {S x : Nat} (hS : 0 < S) (h4 : 4 ∣ S) (hx : 4 ∣ x) :
    x = x / S * S + 4 * (x % S / 4) ∧ 4 * (x % S / 4) + 4 ≤ S := by
  have hdiv := Nat.div_add_mod' x S
  have hlt := Nat.mod_lt x hS
  have hr : 4 ∣ x % S := (Nat.dvd_mod_iff h4).mpr hx
  omega

theorem targetOf_placedAt {S a : Nat} (hS : 0 < S) (hdvd : 4 ∣ S) (ha : a % 4 = 0) :
    (targetOf S a).PlacedAt S a := by
  unfold targetOf
  split_ifs <;> simp only [Target.PlacedAt, true_and]
  · assumption
  · omega
  · omega
  · have := window_offset hS hdvd (x := a - 0x3000) (by omega)
    omega
  · have := window_offset hS hdvd (x := a - 0x4000) (by omega)
    omega
  · have := window_offset hS hdvd (x := a - 0x8000) (by omega)
    omega

theorem State.target_placedAt (s : State) {addr : HostAddr} (ha : addr.toNat % 4 = 0) :
    (s.target addr).PlacedAt s.slot.bytes addr.toNat :=
  targetOf_placedAt s.slot.bytes_pos s.slot.four_dvd_bytes ha

end Sys2Proof.Machine

namespace Sys2Proof.Proofs
open Sys2Proof.Machine

/-- Settles O57, window by window. -/
theorem addressMapPlacesTheSlots : Obligations.AddressMapPlacesTheSlots := by
  intro b o ho
  have hS := b.bytes_le
  exact ⟨targetOf_modSlot ho hS, targetOf_scalarSlot ho hS, targetOf_curveSlot ho hS, targetOf_coefSlot ho hS,
    targetOf_fSlot ho hS, fun a ha => if_pos ha, fun a _ h => targetOf_reserved b.bytes_pos h⟩

end Sys2Proof.Proofs
end

section
/-! The host's accesses: what a CSR write can do, said once, and the CSRs' reads and writes field by field
(10_state.md R130 to R142). -/

namespace Sys2Proof.Machine

/-- A CSR write is that of one of the six writable CSRs, or changes nothing (R130, R142). -/
theorem writeCsr_cases (s : State) (off : Nat) (v : Word) :
    (off = 0x00C ∧ s.writeCsr off v = s.writeCtrl v) ∨ (off = 0x010 ∧ s.writeCsr off v = s.writeStatus v) ∨
    (off = 0x014 ∧ s.writeCsr off v = s.writeCmd v) ∨ (off = 0x020 ∧ s.writeCsr off v = s.writeFlags v) ∨
    (off = 0x024 ∧ s.writeCsr off v = { s with sel := v }) ∨
    (off = 0x028 ∧ s.writeCsr off v = { s with nbits := v.truncate 16 }) ∨
    (off ∉ [0x00C, 0x010, 0x014, 0x020, 0x024, 0x028] ∧ s.writeCsr off v = s) := by
  unfold State.writeCsr
  split <;> simp_all

/-- A CSR that is not among the six writable ones ignores a write. -/
theorem writeCsr_of_readOnly {s : State} {off : Nat} (v : Word)
    (h : off ∉ [0x00C, 0x010, 0x014, 0x020, 0x024, 0x028]) : s.writeCsr off v = s := by
  unfold State.writeCsr
  split <;> simp_all

/-- A CSR offset above PBITS reads 0 (R142). -/
theorem readCsr_of_reserved {s : State} {off : Nat} (h : 0x034 ≤ off) : s.readCsr off = 0#32 := by
  unfold State.readCsr
  split <;> simp_all

/-- A CTRL write without SRST writes IRQ_EN (R132). -/
theorem writeCtrl_of_not_srst {s : State} {v : Word} (h : v.getLsbD 1 = false) :
    s.writeCtrl v = { s with irqEn := v.getLsbD 0 } := by
  rw [State.writeCtrl, h]; rfl

theorem writeCmd_of_idle {s : State} (v : Word) (h : s.busy = false) : s.writeCmd v = s.accept v (latencyLeft v s) := by
  simp [State.writeCmd, h]

theorem writeCmd_of_busy {s : State} (v : Word) (h : s.busy = true) : s.writeCmd v = { s with ovr := true } := by
  simp [State.writeCmd, h]

/-- A write to a curve or COEF slot, or to an address that names nothing, is ignored, whatever the bus answers (R211). -/
theorem memWrite_of_ignored {s : State} {addr : HostAddr} (kind : AccessKind) (lanes : BitVec 4) (v : Word)
    (h : (∃ j k, s.target addr = .curveWord j k) ∨ (∃ j k, s.target addr = .coefWord j k) ∨
      s.target addr = .reserved) : s.memWrite addr kind lanes v = s := by
  obtain ⟨-, e⟩ | ⟨-, e⟩ := memWrite_cases s addr kind lanes v <;> rw [e]
  obtain ⟨j, k, ht⟩ | ⟨j, k, ht⟩ | ht := h <;> rw [ht] <;> rfl

/-- A write to a CSR that is not writable is ignored, whatever the bus answers. -/
theorem memWrite_of_readOnly {s : State} {addr : HostAddr} (kind : AccessKind) (lanes : BitVec 4) (v : Word)
    (ha : addr.toNat < 0x100) (h : addr.toNat ∉ [0x00C, 0x010, 0x014, 0x020, 0x024, 0x028]) :
    s.memWrite addr kind lanes v = s := by
  obtain ⟨-, e⟩ | ⟨-, e⟩ := memWrite_cases s addr kind lanes v <;> rw [e]
  rw [State.target, targetOf, if_pos ha]
  exact writeCsr_of_readOnly v h

/-- A word read of an address that names nothing gives 0, busy or not (R213, R220). -/
theorem memRead_of_reserved {s : State} {addr : HostAddr} (hr : s.inReset = false) (ha : addr.toNat % 4 = 0)
    (h : s.target addr = .reserved) : s.memRead addr .word = .data 0#32 := by
  simp [State.memRead, hr, legalAccess, ha, busyBlocksRead, h, Target.isSlot, State.peek]

/-- The bits of a register word are the bits it is packed from, and it has no other. -/
theorem bitsWord_five (a b c d e : Bool) :
    let v : Word := BitVec.ofNat 32 (bitsWord [a, b, c, d, e])
    v.getLsbD 0 = a ∧ v.getLsbD 1 = b ∧ v.getLsbD 2 = c ∧ v.getLsbD 3 = d ∧ v.getLsbD 4 = e ∧ v.toNat < 32 := by
  revert a b c d e
  decide

theorem bitsWord_four (a b c d : Bool) :
    let v : Word := BitVec.ofNat 32 (bitsWord [a, b, c, d])
    v.getLsbD 0 = a ∧ v.getLsbD 1 = b ∧ v.getLsbD 2 = c ∧ v.getLsbD 3 = d ∧ v.toNat < 16 := by
  revert a b c d
  decide

/-- ISO packs ST in 1:0 and TAG in 3:2, with the numbers of R115. -/
theorem isoWord_fields (s : State) :
    s.isoWord.toNat < 16 ∧ (∀ e ∈ Claims.stNumbers, s.iso.st = e.1 → s.isoWord.extractLsb' 0 2 = e.2) ∧
    ∀ e ∈ Claims.tagNumbers, s.iso.tag = e.1 → s.isoWord.extractLsb' 2 2 = e.2 := by
  unfold State.isoWord
  obtain ⟨st, tag⟩ := s.iso
  cases st <;> cases tag <;> decide

/-- ERRCODE's numbers are those of R1001. -/
theorem errorNumbers_code : ∀ e ∈ Claims.errorNumbers, e.1.code.zeroExtend 32 = e.2 := by decide

end Sys2Proof.Machine

namespace Sys2Proof.Proofs
open Sys2Proof.Machine Sys2Proof.Claims

/-- Settles O54: a CMD write and a CMD read are those of the CSR at 0x014. -/
theorem cmdWritesAreAcceptedWhileIdle : Obligations.CmdWritesAreAcceptedWhileIdle := by
  have write : ∀ (s : State) (v : Word), s.inReset = false → s.memWrite 0x014#16 .word 0xF#4 v = s.writeCmd v :=
    fun s v hr => memWrite_csr v hr rfl (by decide) (by simp [idleOnlyCsr])
  have read : ∀ s : State, s.inReset = false → s.memRead 0x014#16 .word = .data 0#32 :=
    fun s hr => memRead_csr hr rfl (by decide)
  refine ⟨fun s v hr hb => ⟨?_, fun t i hi => ?_⟩, fun s v hr hb => ?_, fun s hr => ⟨read s hr, ?_⟩⟩
  · rw [write s v hr, writeCmd_of_idle v hb]; rfl
  · simp [runWord, hi]
  · rw [write s v hr, writeCmd_of_busy v hb]
  · simp only [serveEvent, read s hr, State.answer]

/-- Settles O55: each write is the CSR's own, and a read-only or reserved CSR has none. -/
theorem csrWritesChangeTheirFields : Obligations.CsrWritesChangeTheirFields := by
  intro s v hr
  refine ⟨fun h => ?_, ?_, fun hb => ⟨?_, ?_, ?_⟩, fun a ha => ?_⟩
  · exact (memWrite_csr v hr rfl (by decide) (by simp [idleOnlyCsr])).trans (writeCtrl_of_not_srst h)
  · exact memWrite_csr v hr rfl (by decide) (by simp [idleOnlyCsr])
  · exact memWrite_csr v hr rfl (by decide) (by simp [hb])
  · exact memWrite_csr v hr rfl (by decide) (by simp [hb])
  · exact memWrite_csr v hr rfl (by decide) (by simp [hb])
  · by_cases hc : a.toNat < 0x100
    · apply memWrite_of_readOnly _ _ _ hc
      intro hw
      simp only [List.mem_cons, List.not_mem_nil, or_false] at ha hw
      omega
    · refine memWrite_of_ignored _ _ _ (.inr (.inr (targetOf_reserved s.slot.bytes_pos ?_)))
      simp only [List.mem_cons, List.not_mem_nil, or_false] at ha
      omega

/-- Settles O56: each read is the CSR's word, and the word's bits are its fields. -/
theorem csrReadsShowTheirFields : Obligations.CsrReadsShowTheirFields := by
  intro s hr
  have read : ∀ a : HostAddr, a.toNat % 4 = 0 → a.toNat < 0x100 → s.memRead a .word = .data (s.readCsr a.toNat) :=
    fun a => memRead_csr hr
  refine ⟨read _ rfl (by decide), read _ rfl (by decide), ?_, ?_, ⟨s.statusWord, read _ rfl (by decide), bitsWord_five ..⟩,
    ?_, read _ rfl (by decide), ⟨s.flagsWord, read _ rfl (by decide), bitsWord_four ..⟩, read _ rfl (by decide),
    ⟨s.nbits.zeroExtend 32, read _ rfl (by decide), ?_⟩, ⟨s.isoWord, read _ rfl (by decide), ?_⟩, ?_, ?_⟩
  · rw [read _ rfl (by decide)]
    show BusResp.data (paramWord s.slot) = _
    cases s.slot <;> rfl
  · rw [read _ rfl (by decide)]
    show BusResp.data s.ctrlWord = _
    simp [State.ctrlWord, bitsWord]
  · intro code n hn hc
    rw [read _ rfl (by decide)]
    show BusResp.data s.errcodeWord = _
    rw [State.errcodeWord, hc, errorNumbers_code _ hn]
  · exact BitVec.toNat_setWidth_of_le (by decide)
  · obtain ⟨hlt, hst, htag⟩ := isoWord_fields s
    exact ⟨hlt, fun st n h => hst (st, n) h, fun tag n h => htag (tag, n) h⟩
  · intro hp
    rw [read _ rfl (by decide)]
    show BusResp.data (BitVec.ofNat 32 (s.pbits % 2 ^ 16)) = _
    rw [Nat.mod_eq_of_lt hp]
  · intro a ha hlo hhi
    by_cases hc : a.toNat < 0x100
    · rw [read a ha hc, readCsr_of_reserved hlo]
    · exact memRead_of_reserved hr ha (targetOf_reserved s.slot.bytes_pos (by omega))

end Sys2Proof.Proofs
end

section
/-! Slots through the bus: a command's frame seen through the address map, and what a write to a slot's word leaves of the
words of every slot (20_memory.md R200, R210, R211). -/

namespace Sys2Proof.Machine
open Sys2Proof.Claims

/-- The aligned address below a byte's. -/
theorem wordBase_toNat (addr : HostAddr) :
    (addr - BitVec.ofNat 16 (addr.toNat % 4)).toNat = addr.toNat - addr.toNat % 4 := by
  have := addr.isLt
  rw [BitVec.toNat_sub_of_le] <;> simp [BitVec.le_def] <;> omega

/-- Two aligned addresses that name one slot's word are the same address. -/
theorem eq_of_target_eq {s : State} {a b : HostAddr} (ha : a.toNat % 4 = 0) (hb : b.toNat % 4 = 0)
    (hs : (s.target a).isSlot = true) (h : s.target b = s.target a) : b = a := by
  have pa := s.target_placedAt ha
  have pb := s.target_placedAt hb
  rw [h] at pb
  apply BitVec.eq_of_toNat_eq
  revert pa pb hs
  cases s.target a with
  | csr | reserved => simp [Target.isSlot]
  | modWord | scalarWord | curveWord | coefWord | fWord => exact fun _ pa pb => pb.1.trans pa.1.symm

/-- A slot-word write keeps the bits below the word (R211). -/
theorem slotPut_mod (w v k : Nat) (d : Word) :
    slotPut w v k d % 2 ^ (w - 32 - 32 * k) = v % 2 ^ (w - 32 - 32 * k) := by
  unfold slotPut
  generalize w - 32 - 32 * k = n
  have e : v / 2 ^ (n + 32) * 2 ^ (n + 32) + d.toNat * 2 ^ n + v % 2 ^ n
      = v % 2 ^ n + 2 ^ n * (v / 2 ^ (n + 32) * 2 ^ 32 + d.toNat) := by ring
  simp only [e, Nat.add_mul_mod_self_left, Nat.mod_mod]

/-- A slot-word write keeps the bits above the word (R211). -/
theorem slotPut_div (w v k : Nat) (d : Word) :
    slotPut w v k d / 2 ^ (w - 32 - 32 * k + 32) = v / 2 ^ (w - 32 - 32 * k + 32) := by
  unfold slotPut
  generalize w - 32 - 32 * k = n
  have hlow : v % 2 ^ n < 2 ^ n := Nat.mod_lt _ (by positivity)
  have hd : d.toNat * 2 ^ n + v % 2 ^ n < 2 ^ (n + 32) := by
    have h : (d.toNat + 1) * 2 ^ n ≤ 2 ^ 32 * 2 ^ n := Nat.mul_le_mul_right _ d.isLt
    rw [Nat.add_mul] at h
    rw [pow_add, Nat.mul_comm (2 ^ n)]
    omega
  show (v / 2 ^ (n + 32) * 2 ^ (n + 32) + d.toNat * 2 ^ n + v % 2 ^ n) / 2 ^ (n + 32) = _
  rw [Nat.add_assoc, Nat.add_comm, Nat.add_mul_div_right _ _ (Nat.two_pow_pos _), Nat.div_eq_of_lt hd, Nat.zero_add]

/-- A write to one word of a slot leaves its other words as they were: the words below it lie in the bits below, those
above it in the bits above (R211). -/
theorem slotWord_slotPut_ne {w k j : Nat} (v : Nat) (d : Word) (hk : 32 * k + 32 ≤ w) (hj : 32 * j + 32 ≤ w)
    (hne : j ≠ k) : slotWord w (slotPut w v k d) j = slotWord w v j := by
  apply BitVec.eq_of_toNat_eq
  simp only [slotWord, BitVec.toNat_ofNat]
  obtain hbelow | habove : w - 32 - 32 * j + 32 ≤ w - 32 - 32 * k ∨ w - 32 - 32 * k + 32 ≤ w - 32 - 32 * j := by omega
  · have window : ∀ x, x / 2 ^ (w - 32 - 32 * j) % 2 ^ 32
        = x % 2 ^ (w - 32 - 32 * k) % 2 ^ (w - 32 - 32 * j + 32) / 2 ^ (w - 32 - 32 * j) := fun x => by
      rw [Nat.mod_mod_of_dvd _ (pow_dvd_pow 2 hbelow), pow_add, Nat.mod_mul_right_div_self]
    rw [window, slotPut_mod, ← window]
  · obtain ⟨i, hi⟩ := Nat.exists_eq_add_of_le habove
    simp only [hi, pow_add _ _ i, ← Nat.div_div_eq_div_mul, slotPut_div]

/-- The slots that the host writes: F, MOD and SCALAR (R211). -/
def Target.isWritable : Target → Bool
  | .modWord _ | .scalarWord _ | .fWord _ _ => true
  | .csr _ | .curveWord _ _ | .coefWord _ _ | .reserved => false

theorem Target.isSlot_of_isWritable {t : Target} (h : t.isWritable = true) : t.isSlot = true := by
  cases t with
  | modWord | scalarWord | fWord => rfl
  | csr | curveWord | coefWord | reserved => cases h

section
variable {s : State} {t u : Target} {v : Word} (hw : t.isWritable = true)
include hw

/-- A slot's word reads as it was written. -/
theorem peek_poke_same : (s.poke v t).peek t = v := by
  cases t with
  | modWord k => exact slotWord_slotPut_same ..
  | scalarWord k => exact slotWord_slotPut_same ..
  | fWord i k =>
    show slotWord s.slot.width ((s.setF i _).F i) k = v
    rw [State.setF_F_same, slotWord_slotPut_same]
  | csr | curveWord | coefWord | reserved => cases hw

/-- Every other word of the data windows reads as before. -/
theorem peek_poke_ne {a b : Nat} (hne : u ≠ t) (ht : t.PlacedAt s.slot.bytes a) (hu : u.PlacedAt s.slot.bytes b)
    (hb : 0x100 ≤ b) : (s.poke v t).peek u = s.peek u := by
  have other : ∀ {x k j}, j ≠ k → 4 * k + 4 ≤ s.slot.bytes → 4 * j + 4 ≤ s.slot.bytes →
      slotWord s.slot.width (slotPut s.slot.width x k v) j = slotWord s.slot.width x j := fun hkj hk hj =>
    slotWord_slotPut_ne _ v (by unfold SlotBytes.width; omega) (by unfold SlotBytes.width; omega) hkj
  cases t with
  | modWord k =>
    cases u with
    | modWord j => exact other (fun e => hne (congrArg _ e)) ht.2 hu.2
    | csr => simp only [Target.PlacedAt] at hu; omega
    | scalarWord | curveWord | coefWord | fWord | reserved => rfl
  | scalarWord k =>
    cases u with
    | scalarWord j => exact other (fun e => hne (congrArg _ e)) ht.2 hu.2
    | csr => simp only [Target.PlacedAt] at hu; omega
    | modWord | curveWord | coefWord | fWord | reserved => rfl
  | fWord i k =>
    cases u with
    | fWord r j =>
      show slotWord s.slot.width ((s.setF i _).F r) j = slotWord s.slot.width (s.F r) j
      by_cases hr : r = i
      · subst hr
        rw [State.setF_F_same]
        exact other (fun e => hne (congrArg _ e)) ht.2 hu.2
      · rw [State.setF_F_ne _ _ hr]
    | csr => simp only [Target.PlacedAt] at hu; omega
    | modWord | scalarWord | curveWord | coefWord | reserved => rfl
  | csr | curveWord | coefWord | reserved => cases hw

/-- A write to a slot keeps what decides a later access: the width, the level of `rst` and the command in flight. -/
theorem poke_access : (s.poke v t).slot = s.slot ∧ (s.poke v t).inReset = s.inReset ∧ (s.poke v t).busy = s.busy := by
  cases t with
  | modWord | scalarWord | fWord => exact ⟨rfl, rfl, rfl⟩
  | csr | curveWord | coefWord | reserved => cases hw

end

section
variable {s : State} {addr : HostAddr} (hr : s.inReset = false) (hb : s.busy = false) (ha : addr.toNat % 4 = 0)
include hr hb ha

/-- A legal word write to an idle CORE has the register map's effect (R211). -/
theorem memWrite_of_idle (v : Word) : s.memWrite addr .word 0xF#4 v = s.poke v (s.target addr) := by
  simp [State.memWrite, State.writeResp, hr, legalAccess, ha, busyBlocksWrite, hb]

/-- A legal word read of an idle CORE gives the register map's word (R210). -/
theorem memRead_of_idle : s.memRead addr .word = .data (s.peek (s.target addr)) := by
  simp [State.memRead, hr, legalAccess, ha, busyBlocksRead, hb]

end

/-- A byte of a word in one of a window's ten slots does not lie outside them. -/
theorem not_outsideTenSlots {base S a k : Nat} (j : Fin 10) (hdvd : 4 ∣ S)
    (h : a - a % 4 = base + j.val * S + 4 * k ∧ 4 * k + 4 ≤ S) : ¬ outsideTenSlots base S a := by
  have hj : j.val * S + S ≤ 10 * S := by
    rw [← Nat.succ_mul]
    exact Nat.mul_le_mul_right S j.isLt
  unfold outsideTenSlots
  omega

end Sys2Proof.Machine

namespace Sys2Proof.Proofs
open Sys2Proof.Machine Sys2Proof.Claims

/-- Settles O11: the byte lies in the word at the aligned address below it; the frame of `exec_withinFrame` says what that
word's register keeps, and the hypotheses that the register is none the command writes. -/
theorem addressSpaceFrame : Obligations.AddressSpaceFrame := by
  intro i s t addr hn hlo hcurve hcoef hdest
  have w := exec_withinFrame hn
  have hbase := wordBase_toNat addr
  have hdvd := s.slot.four_dvd_bytes
  unfold State.readByte
  generalize addr - BitVec.ofNat 16 (addr.toNat % 4) = x at hbase ⊢
  have htarget : t.target x = s.target x := by rw [State.target, w.slot, State.target]
  have hp := s.target_placedAt (addr := x) (by omega)
  rw [htarget]
  congr 1
  revert hp
  rw [hbase]
  cases s.target x with
  | csr off =>
    rintro ⟨-, h⟩
    omega
  | modWord k => simp [State.peek, w.slot, w.mod]
  | scalarWord k => simp [State.peek, w.slot, w.scalar]
  | curveWord j k =>
    intro hp
    have hw : writesCurve i = false := eq_false_of_ne_true fun e => not_outsideTenSlots j hdvd hp (hcurve e)
    simp [State.peek, w.slot, w.curve hw]
  | coefWord j k =>
    intro hp
    have hw : writesCoef i = false := eq_false_of_ne_true fun e => not_outsideTenSlots j hdvd hp (hcoef e)
    simp [State.peek, w.slot, w.coef hw]
  | fWord r k =>
    rintro ⟨hr, hk⟩
    have hw : r ∉ destinations i := fun e => by
      have := hdest r e
      omega
    simp [State.peek, w.slot, w.regs r hw]
  | reserved => exact fun _ => rfl

/-- Settles O51: the write is the register map's, and two aligned addresses that name one slot's word are one address. -/
theorem slotWordsReadBackAsWritten : Obligations.SlotWordsReadBackAsWritten := by
  refine ⟨fun s addr v h => memWrite_of_ignored _ _ v h, ?_⟩
  intro s addr b v hr hb ha hab hslot
  have hw : (s.target addr).isWritable = true := by
    obtain ⟨k, h⟩ | ⟨k, h⟩ | ⟨r, k, h⟩ := hslot <;> rw [h] <;> rfl
  have hs := Target.isSlot_of_isWritable hw
  rw [memWrite_of_idle hr hb ha]
  intro t
  obtain ⟨hslot', hr', hb'⟩ := poke_access (s := s) (v := v) hw
  have htarget : ∀ x, t.target x = s.target x := fun x => by rw [State.target, hslot', State.target]
  refine ⟨?_, ?_, ?_, ?_, ?_, ?_, ?_⟩
  · intro k h
    exact ⟨_, congrArg (s.poke v) h⟩
  · intro k h
    exact ⟨_, congrArg (s.poke v) h⟩
  · intro r k h
    exact ⟨_, congrArg (s.poke v) h⟩
  · rw [memRead_of_idle (hr'.trans hr) (hb'.trans hb) ha, htarget, peek_poke_same hw]
  · intro hne hlo
    rw [memRead_of_idle (hr'.trans hr) (hb'.trans hb) hab, memRead_of_idle hr hb hab, htarget]
    have hu : s.target b ≠ s.target addr := fun e => hne (eq_of_target_eq ha hab hs e)
    rw [peek_poke_ne hw hu (s.target_placedAt ha) (s.target_placedAt hab) (by omega)]
  · rintro ⟨k, h⟩
    exact congrArg (fun u => (s.poke v u).cfgOk) h
  · intro hm
    obtain ⟨k, h⟩ | ⟨k, h⟩ | ⟨r, k, h⟩ := hslot
    · exact absurd h (hm k)
    · exact congrArg (fun u => (s.poke v u).cfgOk) h
    · exact congrArg (fun u => (s.poke v u).cfgOk) h

end Sys2Proof.Proofs
end

section
/-! Canonical values: every operation of Machine/Field.lean and every formula of Machine/Formulas.lean answers values below
the modulus (R32, R33, R702). -/

namespace Sys2Proof.Safety
open Sys2Proof.Machine

/-- Both coordinates of a point lie below `n`. -/
def PointBelow (n : Nat) (v : Point) : Prop := Below n v.x ∧ Below n v.z

section
variable {m n : Nat} (hmn : m ≤ n)
include hmn

theorem Below.mono {x : Gfp2} (h : Below m x) : Below n x := ⟨h.1.trans_le hmn, h.2.trans_le hmn⟩

theorem CurveBelow.mono {c : CurveRegs} (h : CurveBelow m c) : CurveBelow n c :=
  ⟨h.1.mono hmn, h.2.1.mono hmn, h.2.2.1.mono hmn, h.2.2.2.1.mono hmn, h.2.2.2.2.mono hmn⟩

theorem CoefBelow.mono {c : CoefRegs} (h : CoefBelow m c) : CoefBelow n c :=
  ⟨h.1.mono hmn, h.2.1.mono hmn, h.2.2.1.mono hmn, h.2.2.2.1.mono hmn, h.2.2.2.2.mono hmn⟩

end

section
variable {p : Nat} (hp : 0 < p)
include hp

theorem zero_below : Below p .zero := ⟨hp, hp⟩
theorem zeroCurve_below : CurveBelow p .zero :=
  ⟨zero_below hp, zero_below hp, zero_below hp, zero_below hp, zero_below hp⟩
theorem zeroCoef_below : CoefBelow p .zero :=
  ⟨zero_below hp, zero_below hp, zero_below hp, zero_below hp, zero_below hp⟩

theorem add2_below (x y : Gfp2) : Below p (add2 p x y) := ⟨addp_lt hp _ _, addp_lt hp _ _⟩
theorem sub2_below (x y : Gfp2) : Below p (sub2 p x y) := ⟨subp_lt hp _ _, subp_lt hp _ _⟩
theorem neg2_below (x : Gfp2) : Below p (neg2 p x) := ⟨negp_lt hp _, negp_lt hp _⟩
theorem mul2_below (x y : Gfp2) : Below p (mul2 p x y) := ⟨subp_lt hp _ _, addp_lt hp _ _⟩
theorem sqr2_below (x : Gfp2) : Below p (sqr2 p x) := mul2_below hp x x
theorem k2_below (c : Nat) : Below p (k2 p c) := ⟨kp_lt hp c, hp⟩
theorem inv2_below (x : Gfp2) : Below p (inv2 p x) := ⟨mulp_lt hp _ _, mulp_lt hp _ _⟩

theorem invp_lt (a : Nat) : invp p a < p := by
  rw [invp, powMod_eq]
  exact Nat.mod_lt _ hp

theorem xdblFormula_below (a24p c24 : Gfp2) (v : Point) : PointBelow p (xdblFormula p a24p c24 v) :=
  ⟨mul2_below hp _ _, mul2_below hp _ _⟩
theorem xtplFormula_below (a24p a24m : Gfp2) (v : Point) : PointBelow p (xtplFormula p a24p a24m v) :=
  ⟨mul2_below hp _ _, mul2_below hp _ _⟩
theorem xaddFormula_below (a b : Point) (xd : Gfp2) : PointBelow p (xaddFormula p a b xd) :=
  ⟨sqr2_below hp _, mul2_below hp _ _⟩
theorem eval3Formula_below (k : CoefRegs) (v : Point) : PointBelow p (eval3Formula p k v) :=
  ⟨mul2_below hp _ _, mul2_below hp _ _⟩
theorem eval4Formula_below (k : CoefRegs) (v : Point) : PointBelow p (eval4Formula p k v) :=
  ⟨mul2_below hp _ _, mul2_below hp _ _⟩
theorem eval4fFormula_below (k : CoefRegs) (v : Point) : PointBelow p (eval4fFormula p k v) :=
  ⟨mul2_below hp _ _, neg2_below hp _⟩

theorem curveOf_below {a c : Gfp2} (ha : Below p a) (hc : Below p c) : CurveBelow p (curveOf p a c) :=
  ⟨ha, hc, add2_below hp _ _, sub2_below hp _ _, add2_below hp _ _⟩
theorem get3Curve_below (k : Point) : CurveBelow p (get3Curve p k) :=
  ⟨add2_below hp _ _, sub2_below hp _ _, mul2_below hp _ _, mul2_below hp _ _, sub2_below hp _ _⟩
theorem get4Curve_below (k : Point) : CurveBelow p (get4Curve p k) :=
  ⟨sub2_below hp _ _, sqr2_below hp _, sqr2_below hp _, sub2_below hp _ _, sqr2_below hp _⟩
theorem get4fCurve_below (a c : Gfp2) : CurveBelow p (get4fCurve p a c) :=
  curveOf_below hp (add2_below hp _ _) (sub2_below hp _ _)
theorem get3Coef_below (k : Point) : CoefBelow p (get3Coef p k) :=
  ⟨sub2_below hp _ _, add2_below hp _ _, zero_below hp, zero_below hp, zero_below hp⟩
theorem get4Coef_below (k : Point) : CoefBelow p (get4Coef p k) :=
  ⟨add2_below hp _ _, sub2_below hp _ _, add2_below hp _ _, zero_below hp, zero_below hp⟩
theorem get4fCoef_below {a c : Gfp2} (hc : Below p c) : CoefBelow p (get4fCoef p a c) :=
  ⟨hc, sub2_below hp _ _, zero_below hp, zero_below hp, zero_below hp⟩

/-- The loop leaves R2 canonical: each iteration writes it with an XADD, and none keeps it as it was (R801). -/
theorem ladderLoop_r2_below (c : LadderInput) (m n : Nat) (r : LadderRegs) (hr : PointBelow p r.r2) :
    PointBelow p (ladderLoop p c m n r).r2 := by
  induction n generalizing r with
  | zero => exact hr
  | succ n ih =>
    apply ih
    cases hb : m.testBit n <;> exact xaddFormula_below hp _ _ _

theorem ladder3_below {c : LadderInput} (hc : Below p c.xP) (m n : Nat) : PointBelow p (ladder3 p c m n) :=
  ladderLoop_r2_below hp c m n _ ⟨hc, k2_below hp 1⟩

end

theorem div2_below {p : Nat} {x : Gfp2} (h : Below p x) : Below p (div2 p x) := ⟨div2p_lt h.1, div2p_lt h.2⟩

/-- A selected value is one of the two. -/
theorem selectIf_of {α : Type} {Q : α → Prop} {x y : α} (b : Bool) (hx : Q x) (hy : Q y) : Q (selectIf b x y) := by
  cases b
  · exact hx
  · exact hy

/-- Swapped values are the same two. -/
theorem swapIf_of {α : Type} {Q : α → Prop} {x y : α} (b : Bool) (hx : Q x) (hy : Q y) :
    Q (swapIf b x y).1 ∧ Q (swapIf b x y).2 := by
  cases b
  · exact ⟨hx, hy⟩
  · exact ⟨hy, hx⟩

/-- The source components of E[a] are its value's (R102). -/
theorem E_below {s : State} {a : EReg} (h : Claims.Canonical s (EReg.comps a)) : Below s.mod (s.E a) :=
  ⟨h _ (by simp [EReg.comps]), h _ (by simp [EReg.comps])⟩

/-- The source components of P[a] are its value's (R103). -/
theorem P_below {s : State} {a : PReg} (h : Claims.Canonical s (PReg.comps a)) : PointBelow s.mod (s.P a) :=
  have ⟨hx, hz⟩ := List.forall_mem_append.mp h
  ⟨E_below hx, E_below hz⟩

end Sys2Proof.Safety
end

section
/-! The whole-machine invariant: each update of the state keeps Sound as long as what it writes is canonical or fits, so
the invariant is read off a command's effect. -/

namespace Sys2Proof.Safety
open Sys2Proof.Machine Sys2Proof.Claims

/-- W is at most 2048 (R20). -/
theorem width_le (b : SlotBytes) : b.width ≤ 2048 := by cases b <;> decide

/-- PBITS holds the bit length of an accepted modulus, which is at most W - 1 (R141, R402). -/
theorem bitlength_lt_of_acceptMod {b : SlotBytes} {m : Nat} (h : acceptMod b.width m = true) : bitlength m < 2 ^ 16 := by
  simp only [acceptMod, Bool.and_eq_true, decide_eq_true_eq] at h
  have hle := h.2.1
  have hw := width_le b
  omega

theorem pos_of_acceptMod {w m : Nat} (h : acceptMod w m = true) : 0 < m :=
  (three_le_of_acceptMod h).trans_lt' (by decide)

/-- The checks of CONFIG pass only on an accepted modulus (R401). -/
theorem acceptMod_of_config_verdict {s : State}
    (h : Checks.verdict { needsCfg := false, badmod := !acceptMod s.slot.width s.mod } s = .eNone) :
    acceptMod s.slot.width s.mod = true := by
  obtain ⟨-, -, -, -, -, -, -, hbad⟩ := (verdict_eNone_iff _ s).mp h
  simpa using hbad

namespace Sound

section
variable {s : State} (h : Sound s)
include h

theorem mod_pos (hc : s.cfgOk = true) : 0 < s.mod := pos_of_acceptMod (h.modAccepted hc)

theorem finish (c : ErrCode) : Sound (s.finish c) := { h with widths := { h.widths with }, resetIdle := fun _ => rfl }

theorem setFlags (g : Flags) : Sound (s.setFlags g) := { h with widths := { h.widths with } }

theorem noteInverse (n : Nat) : Sound (s.noteInverse n) := h.setFlags _

/-- An F register takes any value of its width (R101). -/
theorem setF {d : FReg} {v : Nat} (hv : v < 2 ^ s.slot.width) : Sound (s.setF d v) :=
  { h with
    widths :=
      { h.widths with
        fFits := fun r => by
          rw [State.setF_F]
          split
          · exact hv
          · exact h.widths.fFits r } }

theorem setE {d : EReg} {v : Gfp2} (hv : Below s.mod v) : Sound (s.setE d v) :=
  (h.setF (hv.1.trans h.widths.modFits)).setF (hv.2.trans h.widths.modFits)

theorem setP {d : PReg} {v : Point} (hv : PointBelow s.mod v) : Sound (s.setP d v) := (h.setE hv.1).setE hv.2

theorem setCurve {c : CurveRegs} (hc : CurveBelow s.mod c) : Sound (s.setCurve c) :=
  { h with
    widths := { h.widths with curveFits := hc.mono h.widths.modFits.le }
    curveCanonical := fun _ => hc }

theorem setCoef {c : CoefRegs} (hc : CoefBelow s.mod c) : Sound (s.setCoef c) :=
  { h with
    widths := { h.widths with coefFits := hc.mono h.widths.modFits.le }
    coefCanonical := fun _ => hc }

theorem setIso {x : Iso} (hx : x.st = .uncomputed ↔ x.tag = .untagged) : Sound (s.setIso x) :=
  { h with widths := { h.widths with }, isoTagged := hx }

/-- CONFIG's effect (R401): an accepted modulus with its bit length, and the curve, COEF, ISO and FLAGS cleared. -/
theorem configure (ha : acceptMod s.slot.width s.mod = true) :
    Sound (((((s.setConfigured (bitlength s.mod)).setCurve .zero).setCoef .zero).setIso .initial).setFlags .clear) :=
  have hp : 0 < s.mod := pos_of_acceptMod ha
  have configured : ∀ c : CurveRegs, CurveBelow s.mod c → ∀ k : CoefRegs, CoefBelow s.mod k →
      Sound (((s.setConfigured (bitlength s.mod)).setCurve c).setCoef k) := fun c hc k hk =>
    { h with
      widths :=
        { h.widths with
          curveFits := hc.mono h.widths.modFits.le
          coefFits := hk.mono h.widths.modFits.le
          pbitsFits := bitlength_lt_of_acceptMod ha }
      modAccepted := fun _ => ha
      pbitsOfMod := fun _ => rfl
      curveCanonical := fun _ => hc
      coefCanonical := fun _ => hk }
  ((configured _ (zeroCurve_below hp) _ (zeroCoef_below hp)).setIso (by decide)).setFlags _

/-- A command keeps Sound when its effect does: an error completion commits nothing (R1005). -/
theorem of_command {c : Checks} {effect t : State} (hn : command c effect s = .next t)
    (he : c.verdict s = .eNone → Sound effect) : Sound t := by
  obtain ⟨hv, rfl⟩ | ⟨-, rfl⟩ := command_next hn
  · exact (he hv).finish _
  · exact h.finish _

end
end Sound

/-- What a command on a configured CORE may rely on once its checks have passed (R1002): a modulus, canonical sources and
an ISO tag it asks for. -/
structure Ready (c : Checks) (s : State) : Prop where
  configured : s.cfgOk = true
  mod_pos : 0 < s.mod
  sources : Canonical s c.sources
  tag : ∀ l, c.tags = some l → s.iso.tag ∈ l

theorem Sound.ready {c : Checks} {s : State} (h : Sound s) (hc : c.needsCfg = true) (hv : c.verdict s = .eNone) :
    Ready c s := by
  obtain ⟨-, hcfg, -, -, -, htag, hsrc, -⟩ := (verdict_eNone_iff c s).mp hv
  exact ⟨hcfg hc, h.mod_pos (hcfg hc), hsrc, htag⟩

/-- A command that needs CFG_OK keeps Sound when its effect on a ready state does. -/
theorem Sound.of_ready {c : Checks} {effect s t : State} (h : Sound s) (hn : command c effect s = .next t)
    (he : Ready c s → Sound effect) (hc : c.needsCfg = true := by rfl) : Sound t :=
  h.of_command hn fun hv => he (h.ready hc hv)

/-- Every command keeps Sound: what it writes is canonical, since its sources are (R107, R702, R1004). -/
theorem exec_sound {i : Instr} {s t : State} (h : Sound s) (hn : exec i s = .next t) : Sound t := by
  have fits : ∀ {v}, v < s.mod → v < 2 ^ s.slot.width := fun hv => hv.trans h.widths.modFits
  cases i with
  | nop => exact h.of_command (c := { needsCfg := false }) hn fun _ => h
  | config => exact h.of_command hn fun hv => h.configure (acceptMod_of_config_verdict hv)
  | fpadd => exact h.of_ready hn fun k => h.setF (fits (addp_lt k.mod_pos _ _))
  | fpsub => exact h.of_ready hn fun k => h.setF (fits (subp_lt k.mod_pos _ _))
  | fpmul | fpsqr => exact h.of_ready hn fun k => h.setF (fits (mulp_lt k.mod_pos _ _))
  | fpneg => exact h.of_ready hn fun k => h.setF (fits (negp_lt k.mod_pos _))
  | fpdiv2 d a => exact h.of_ready hn fun k => h.setF (fits (div2p_lt (k.sources a (by simp))))
  | fpmov d a => exact h.of_ready hn fun _ => h.setF (h.widths.fFits a)
  | fpseti => exact h.of_ready hn fun k => h.setF (fits (kp_lt k.mod_pos _))
  | fpcswap a b =>
    have hr := swapIf_of (Q := (· < 2 ^ s.slot.width)) s.selBit (h.widths.fFits a) (h.widths.fFits b)
    exact h.of_ready hn fun _ => (h.setF hr.1).setF hr.2
  | fpcsel d a b =>
    exact h.of_ready hn fun _ => h.setF (selectIf_of (Q := (· < _)) _ (h.widths.fFits a) (h.widths.fFits b))
  | fptest | fp2test => exact h.of_ready hn fun _ => h.setFlags _
  | fp2add => exact h.of_ready hn fun k => h.setE (add2_below k.mod_pos _ _)
  | fp2sub => exact h.of_ready hn fun k => h.setE (sub2_below k.mod_pos _ _)
  | fp2mul | fp2sqr => exact h.of_ready hn fun k => h.setE (mul2_below k.mod_pos _ _)
  | fp2neg => exact h.of_ready hn fun k => h.setE (neg2_below k.mod_pos _)
  | fp2div2 => exact h.of_ready hn fun k => h.setE (div2_below (E_below k.sources))
  | fp2mov => exact h.of_ready hn fun k => h.setE (E_below k.sources)
  | fp2cswap a b =>
    refine h.of_ready hn fun k => ?_
    obtain ⟨ha, hb⟩ := List.forall_mem_append.mp k.sources
    have hr := swapIf_of s.selBit (E_below ha) (E_below hb)
    exact (h.setE hr.1).setE hr.2
  | fp2csel d a b =>
    refine h.of_ready hn fun k => h.setE ?_
    obtain ⟨ha, hb⟩ := List.forall_mem_append.mp k.sources
    exact selectIf_of _ (E_below ha) (E_below hb)
  | fpinv => exact h.of_ready hn fun k => (h.setF (fits (invp_lt k.mod_pos _))).noteInverse _
  | fp2inv => exact h.of_ready hn fun k => (h.setE (inv2_below k.mod_pos _)).noteInverse _
  | inv3 =>
    refine h.of_ready hn fun k => ?_
    have o {x y} := mul2_below k.mod_pos x y
    exact (((h.setE o).setE o).setE o).noteInverse _
  | inv4 =>
    refine h.of_ready hn fun k => ?_
    have o {x y} := mul2_below k.mod_pos x y
    exact ((((h.setE o).setE o).setE o).setE o).noteInverse _
  | cset a b =>
    refine h.of_ready hn fun k => ?_
    obtain ⟨ha, hb⟩ := List.forall_mem_append.mp k.sources
    exact (h.setCurve (curveOf_below k.mod_pos (E_below ha) (E_below hb))).setIso (by decide)
  | cget =>
    refine h.of_ready hn fun k => ?_
    obtain ⟨hca, hcc, -⟩ := h.curveCanonical k.configured
    exact (h.setE hca).setE hcc
  | xdbl => exact h.of_ready hn fun k => h.setP (xdblFormula_below k.mod_pos _ _ _)
  | xtpl => exact h.of_ready hn fun k => h.setP (xtplFormula_below k.mod_pos _ _ _)
  | xadd => exact h.of_ready hn fun k => h.setP (xaddFormula_below k.mod_pos _ _ _)
  | xdbladd =>
    exact h.of_ready hn fun k =>
      (h.setP (xdblFormula_below k.mod_pos _ _ _)).setP (xaddFormula_below k.mod_pos _ _ _)
  | pcswap a b =>
    refine h.of_ready hn fun k => ?_
    obtain ⟨ha, hb⟩ := List.forall_mem_append.mp k.sources
    have hr := swapIf_of s.selBit (P_below ha) (P_below hb)
    exact (h.setP hr.1).setP hr.2
  | jinv => exact h.of_ready hn fun k => (h.setE (mul2_below k.mod_pos _ _)).noteInverse _
  | recova => exact h.of_ready hn fun k => (h.setE (sub2_below k.mod_pos _ _)).noteInverse _
  | ladder d a b c =>
    refine h.of_ready hn fun k => h.setP (ladder3_below k.mod_pos ?_ _ _)
    obtain ⟨hab, -⟩ := List.forall_mem_append.mp k.sources
    exact E_below (List.forall_mem_append.mp hab).1
  | get3 =>
    exact h.of_ready hn fun k =>
      ((h.setCurve (get3Curve_below k.mod_pos _)).setCoef (get3Coef_below k.mod_pos _)).setIso (by simp)
  | get4 =>
    exact h.of_ready hn fun k =>
      ((h.setCurve (get4Curve_below k.mod_pos _)).setCoef (get4Coef_below k.mod_pos _)).setIso (by simp)
  | get4f =>
    refine h.of_ready hn fun k => ?_
    obtain ⟨-, hcc, -⟩ := h.curveCanonical k.configured
    exact ((h.setCurve (get4fCurve_below k.mod_pos _ _)).setCoef (get4fCoef_below k.mod_pos hcc)).setIso (by simp)
  | eval3 =>
    refine h.of_ready hn fun k => (h.setP (eval3Formula_below k.mod_pos _ _)).setIso ?_
    have htag := k.tag _ rfl
    simp_all
  | eval4 =>
    refine h.of_ready hn fun k => (h.setP ?_).setIso ?_
    · split
      · exact eval4Formula_below k.mod_pos _ _
      · exact eval4fFormula_below k.mod_pos _ _
    · have htag := k.tag _ rfl
      rcases List.mem_pair.mp htag with e | e <;> simp [e]

end Sys2Proof.Safety
end

section
/-! What a host event can do to the machine's state while a command is in flight, and what each event keeps of Sound. -/

namespace Sys2Proof.Machine
open Sys2Proof.Claims

theorem aligned_of_legalAccess {addr : HostAddr} {kind : AccessKind} {lanes : BitVec 4}
    (h : legalAccess addr kind lanes = true) : addr.toNat % 4 = 0 := by
  simp only [legalAccess, Bool.and_eq_true, decide_eq_true_eq] at h
  exact h.1

/-- While a command is in flight, a write other than a soft reset changes at most CTRL's and STATUS's own bits: the slots
and FLAGS, SEL and NBITS are blocked, and a CMD write only sets OVR (R134, R213). -/
theorem memWrite_of_busy {s : State} {addr : HostAddr} {kind : AccessKind} {lanes : BitVec 4} {v : Word}
    (hb : s.busy = true) (hs : softResets (.write addr kind lanes v) = false) :
    ∃ q d e o, s.memWrite addr kind lanes v = { s with irqEn := q, done := d, err := e, ovr := o } := by
  obtain ⟨hw, h⟩ | ⟨-, h⟩ := memWrite_cases s addr kind lanes v <;> rw [h]
  · obtain ⟨-, hl, hfree⟩ := (writeResp_written_iff ..).mp hw
    have hp := s.target_placedAt (aligned_of_legalAccess hl)
    revert hp hfree
    cases ht : s.target addr with
    | csr off =>
      rintro hfree ⟨hoff, -⟩
      simp only [busyBlocksWrite, hb, Bool.true_and] at hfree
      show ∃ q d e o, s.writeCsr off v = _
      obtain ⟨ho, e⟩ | ⟨-, e⟩ | ⟨-, e⟩ | ⟨rfl, -⟩ | ⟨rfl, -⟩ | ⟨rfl, -⟩ | ⟨-, e⟩ := writeCsr_cases s off v
      · have ha : addr = 0x00C#16 := BitVec.eq_of_toNat_eq (hoff.trans ho)
        have hv : v.getLsbD 1 = false := by simpa [softResets, ha] using hs
        exact ⟨_, _, _, _, e.trans (writeCtrl_of_not_srst hv)⟩
      · exact ⟨_, _, _, _, e⟩
      · exact ⟨_, _, _, _, e.trans (writeCmd_of_busy v hb)⟩
      · cases hfree
      · cases hfree
      · cases hfree
      · exact ⟨_, _, _, _, e⟩
    | reserved => exact fun _ _ => ⟨_, _, _, _, rfl⟩
    | modWord | scalarWord | curveWord | coefWord | fWord => simp [busyBlocksWrite, hb, Target.isSlot]
  · exact ⟨_, _, _, _, rfl⟩

/-- While a command is in flight, an event other than a reset changes at most CTRL, STATUS, the level of `rst` and the
answer on the bus (R125, R213). -/
theorem serveEvent_of_busy {e : HostEvent} {s : State} (hb : s.busy = true) (he : e ≠ .rstAssert)
    (hs : softResets e = false) :
    ∃ q d r o l a, serveEvent e s = { s with irqEn := q, done := d, err := r, ovr := o, inReset := l, resp := a } := by
  cases e with
  | read | idle | wait | rstRelease => exact ⟨_, _, _, _, _, _, rfl⟩
  | write addr kind lanes v =>
    obtain ⟨q, d, r, o, h⟩ := memWrite_of_busy hb hs
    exact ⟨q, d, r, o, _, _, congrArg (State.answer · _) h⟩
  | rstAssert => exact absurd rfl he

end Sys2Proof.Machine

namespace Sys2Proof.Machine.State

/-! The registers that a reset leaves. The updates of Machine/Reset.lean take their fields from the power-on state, so `simp`
unfolds them once here. -/

@[simp] theorem softReset_slot (s : State) : s.softReset.slot = s.slot := by simp only [softReset, powerUp]
@[simp] theorem softReset_F (s : State) (r : FReg) : s.softReset.F r = s.F r := by simp only [softReset, F]
@[simp] theorem softReset_mod (s : State) : s.softReset.mod = s.mod := by simp only [softReset]
@[simp] theorem softReset_scalar (s : State) : s.softReset.scalar = s.scalar := by simp only [softReset]

@[simp] theorem hardReset_slot (s : State) : s.hardReset.slot = s.slot := by simp only [hardReset, powerUp]
@[simp] theorem hardReset_F (s : State) (r : FReg) :
    s.hardReset.F r = (powerUp s.slot (Config.powerOn s.resets)).F r := by simp only [hardReset, F]
@[simp] theorem hardReset_mod (s : State) :
    s.hardReset.mod = (powerUp s.slot (Config.powerOn s.resets)).mod := by simp only [hardReset]
@[simp] theorem hardReset_scalar (s : State) :
    s.hardReset.scalar = (powerUp s.slot (Config.powerOn s.resets)).scalar := by simp only [hardReset]

end Sys2Proof.Machine.State

namespace Sys2Proof.Safety
open Sys2Proof.Machine Sys2Proof.Claims

/-- A state with every CSR, the curve, COEF and ISO cleared and nothing in flight is sound, whatever W-bit values F, MOD
and SCALAR hold: the columns H and S of R150. -/
theorem sound_of_cleared {t : State} {w : Nat} (hw : t.slot.width = w) (hf : ∀ r, t.F r < 2 ^ w) (hm : t.mod < 2 ^ w)
    (hsc : t.scalar < 2 ^ w) (hcurve : t.curve = .zero) (hcoef : t.coef = .zero) (hiso : t.iso = .initial)
    (hcfg : t.cfgOk = false) (hpb : t.pbits = 0) (hin : t.inflight = none) : Sound t := by
  subst hw
  have hpos : 0 < 2 ^ t.slot.width := Nat.two_pow_pos _
  exact
    { widths :=
        { fFits := hf, modFits := hm, scalarFits := hsc
          curveFits := hcurve ▸ zeroCurve_below hpos
          coefFits := hcoef ▸ zeroCoef_below hpos
          pbitsFits := by simp [hpb] }
      modAccepted := by simp [hcfg]
      pbitsOfMod := by simp [hcfg]
      curveCanonical := by simp [hcfg]
      coefCanonical := by simp [hcfg]
      isoTagged := by simp [hiso, Iso.initial]
      resetIdle := fun _ => hin }

/-- The power-on contents are cut to the registers' width (R1103). -/
theorem powerUp_F_lt (slot : SlotBytes) (contents : Nat → Nat) (r : FReg) :
    (State.powerUp slot contents).F r < 2 ^ slot.width := by
  have h : (State.powerUp slot contents).F r = contents r.val % 2 ^ slot.width := by simp [State.powerUp, State.F]
  rw [h]
  exact Nat.mod_lt _ (Nat.two_pow_pos _)

theorem powerUp_mod_lt (slot : SlotBytes) (contents : Nat → Nat) :
    (State.powerUp slot contents).mod < 2 ^ slot.width := by
  unfold State.powerUp
  exact Nat.mod_lt _ (Nat.two_pow_pos _)

theorem powerUp_scalar_lt (slot : SlotBytes) (contents : Nat → Nat) :
    (State.powerUp slot contents).scalar < 2 ^ slot.width := by
  unfold State.powerUp
  exact Nat.mod_lt _ (Nat.two_pow_pos _)

theorem powerUp_sound (slot : SlotBytes) (contents : Nat → Nat) : Sound (State.powerUp slot contents) :=
  sound_of_cleared (w := slot.width) rfl (powerUp_F_lt slot contents) (powerUp_mod_lt ..) (powerUp_scalar_lt ..)
    rfl rfl rfl rfl rfl rfl

theorem hardReset_sound (s : State) : Sound s.hardReset :=
  sound_of_cleared (w := s.slot.width) (by rw [State.hardReset_slot])
    (fun r => by rw [State.hardReset_F]; exact powerUp_F_lt ..)
    (by rw [State.hardReset_mod]; exact powerUp_mod_lt ..) (by rw [State.hardReset_scalar]; exact powerUp_scalar_lt ..)
    rfl rfl rfl rfl rfl rfl

namespace Sound

section
variable {s : State} (h : Sound s)
include h

theorem softReset : Sound s.softReset :=
  sound_of_cleared (w := s.slot.width) (by rw [State.softReset_slot]) (by simpa using h.widths.fFits)
    (by simpa using h.widths.modFits) (by simpa using h.widths.scalarFits) rfl rfl rfl rfl rfl rfl

theorem accept (w : Word) (n : Nat) (hr : s.inReset = false) : Sound (s.accept w n) :=
  { h with widths := { h.widths with }, resetIdle := fun e => by simp [hr] at e }

theorem writeCsr (off : Nat) (v : Word) (hr : s.inReset = false) : Sound (s.writeCsr off v) := by
  obtain ⟨-, e⟩ | ⟨-, e⟩ | ⟨-, e⟩ | ⟨-, e⟩ | ⟨-, e⟩ | ⟨-, e⟩ | ⟨-, e⟩ := writeCsr_cases s off v <;> rw [e]
  · unfold State.writeCtrl
    split
    · exact h.softReset
    · exact { h with widths := { h.widths with } }
  · exact { h with widths := { h.widths with } }
  · unfold State.writeCmd
    split
    · exact { h with widths := { h.widths with } }
    · exact h.accept _ _ hr
  · exact h.setFlags _
  · exact { h with widths := { h.widths with } }
  · exact { h with widths := { h.widths with } }
  · exact h

/-- A word written to a slot leaves its register within its width, and a MOD write takes CFG_OK with it (R104, R211). -/
theorem poke {t : Target} {a : Nat} (v : Word) (ht : t.PlacedAt s.slot.bytes a) (hr : s.inReset = false) :
    Sound (s.poke v t) := by
  have fits : ∀ {x k}, x < 2 ^ s.slot.width → 4 * k + 4 ≤ s.slot.bytes → slotPut s.slot.width x k v < 2 ^ s.slot.width :=
    fun hx hk => slotPut_lt v hx (by unfold SlotBytes.width; omega)
  cases t with
  | csr off => exact h.writeCsr off v hr
  | modWord k =>
    exact
      { h with
        widths := { h.widths with modFits := fits h.widths.modFits ht.2 }
        modAccepted := nofun
        pbitsOfMod := nofun
        curveCanonical := nofun
        coefCanonical := nofun }
  | scalarWord k => exact { h with widths := { h.widths with scalarFits := fits h.widths.scalarFits ht.2 } }
  | fWord i k => exact h.setF (fits (h.widths.fFits i) ht.2)
  | curveWord | coefWord | reserved => exact h

theorem memWrite (addr : HostAddr) (kind : AccessKind) (lanes : BitVec 4) (v : Word) :
    Sound (s.memWrite addr kind lanes v) := by
  obtain ⟨hw, e⟩ | ⟨-, e⟩ := memWrite_cases s addr kind lanes v <;> rw [e]
  · obtain ⟨hr, hl, -⟩ := (writeResp_written_iff ..).mp hw
    exact h.poke v (s.target_placedAt (aligned_of_legalAccess hl)) hr
  · exact h

theorem answer (r : BusResp) : Sound (s.answer r) := { h with widths := { h.widths with } }

theorem serveEvent (e : HostEvent) : Sound (serveEvent e s) := by
  cases e with
  | read => exact h.answer _
  | write => exact (h.memWrite ..).answer _
  | idle | wait => exact h
  | rstAssert => exact hardReset_sound s
  | rstRelease => exact { h with widths := { h.widths with }, resetIdle := nofun }

theorem withHost (l : List HostEvent) : Sound { s with host := l } := { h with widths := { h.widths with } }

theorem serveCycle : Sound (serveCycle s) := by
  unfold Machine.serveCycle
  split
  · exact h
  · exact (h.withHost _).serveEvent _

theorem tick {c : InFlight} (hc : s.inflight = some c) : Sound (s.tick c) :=
  { h with widths := { h.widths with }, resetIdle := fun e => by simp [h.resetIdle e] at hc }

end
end Sound
end Sys2Proof.Safety

namespace Sys2Proof.Machine

/-- What a step can be: the run of the word that completes, or a cycle of the host's side, with the latency of a command in
flight counted (R125, R1011). -/
theorem step_cases {s t : State} (h : step s = .next t) :
    (∃ c, s.inflight = some c ∧ runWord c.word s = .next t) ∨
    (s.inflight = none ∧ t = serveCycle s) ∨
    (∃ c, s.inflight = some c ∧ t = serveCycle (s.tick c)) := by
  cases hc : s.inflight with
  | none =>
    rw [step_of_idle hc] at h
    cases h
    exact .inr (.inl ⟨rfl, rfl⟩)
  | some c =>
    cases hn : completesNow c s.host with
    | true => exact .inl ⟨c, rfl, (step_of_completes hc hn).symm.trans h⟩
    | false =>
      rw [step_of_waits hc hn] at h
      cases h
      exact .inr (.inr ⟨c, rfl, rfl⟩)

/-- What the run of a word can be: its command's meaning, or the completion of an illegal word (R303). -/
theorem runWord_cases {w : Word} {s t : State} (h : runWord w s = .next t) :
    (∃ i, decodeWord w = some i ∧ exec i s = .next t) ∨ (decodeWord w = none ∧ t = s.finish .eIllegal) := by
  unfold runWord at h
  split at h
  · exact .inl ⟨_, ‹_›, h⟩
  · cases h
    exact .inr ⟨‹_›, rfl⟩

end Sys2Proof.Machine

namespace Sys2Proof.Proofs
open Sys2Proof.Machine Sys2Proof.Claims Sys2Proof.Safety

/-- Settles O14: an event while busy changes at most CTRL, STATUS, the level of `rst` and the answer on the bus. -/
theorem operandsAreStableWhileBusy : Obligations.OperandsAreStableWhileBusy := by
  intro e s hb he hs
  obtain ⟨q, d, r, o, l, a, h⟩ := serveEvent_of_busy hb he hs
  simp [h]

/-- Settles O17: every command and every event of the host keeps Sound. -/
theorem everyStepKeepsSound : Obligations.EveryStepKeepsSound := by
  intro s t h hn
  obtain ⟨c, -, hr⟩ | ⟨-, rfl⟩ | ⟨c, hc, rfl⟩ := step_cases hn
  · obtain ⟨i, -, he⟩ | ⟨-, rfl⟩ := runWord_cases hr
    · exact exec_sound h he
    · exact h.finish _
  · exact h.serveCycle
  · exact (h.tick hc).serveCycle

/-- Settles O16: with CFG_OK clear nothing is asked of the curve. -/
theorem resetStateIsSound : Obligations.ResetStateIsSound :=
  have h : ∀ slot contents, SoundCurve (State.powerUp slot contents) := fun slot contents =>
    ⟨powerUp_sound slot contents, nofun⟩
  ⟨h _ _, h⟩

/-- Settles O19: column H is the state that hardReset builds; while `rst` is asserted the bus answers every access with an
error. -/
theorem hardResetGivesColumnH : Obligations.HardResetGivesColumnH := by
  intro s t
  have ht : t.inReset = true := rfl
  have hslot : t.slot = s.slot := State.hardReset_slot s
  have w := (hardReset_sound s).widths
  refine ⟨rfl, rfl, rfl, rfl, rfl, rfl, rfl, rfl, rfl, rfl, rfl, rfl, rfl, hslot ▸ w.fFits, hslot ▸ w.modFits,
    hslot ▸ w.scalarFits, hslot, ?_, ?_, rfl⟩
  · intro addr kind
    simp [State.memRead, ht]
  · intro addr kind lanes
    simp [State.writeResp, ht]

end Sys2Proof.Proofs
end

section
/-! The curve consistency of R111: each command that writes the curve registers writes registers of one affine coefficient
(R700, R900, R910, R920), by ring arithmetic in each component over the integers modulo p. -/

namespace Sys2Proof.Safety
open Sys2Proof.Machine Sys2Proof.Claims

/-- Canonical values are equal when their components are equal modulo p. -/
theorem eq_of_cast_eq {p : Nat} {x y : Gfp2} (hx : Below p x) (hy : Below p y) (h0 : (x.c0 : ZMod p) = y.c0)
    (h1 : (x.c1 : ZMod p) = y.c1) : x = y := by
  obtain ⟨x0, x1⟩ := x
  obtain ⟨y0, y1⟩ := y
  rw [ZMod.natCast_eq_natCast_iff'] at h0 h1
  simp only [Nat.mod_eq_of_lt, hx.1, hx.2, hy.1, hy.2] at h0 h1
  rw [h0, h1]

/-! The components of each operation of GF(p^2), modulo p (R33). -/

theorem cast_add2 (p : Nat) (x y : Gfp2) :
    ((add2 p x y).c0 : ZMod p) = x.c0 + y.c0 ∧ ((add2 p x y).c1 : ZMod p) = x.c1 + y.c1 := by
  simp [add2]

theorem cast_k2 (p c : Nat) : ((k2 p c).c0 : ZMod p) = c ∧ ((k2 p c).c1 : ZMod p) = 0 := by
  simp [k2]

section
variable {p : Nat} (hp : 0 < p)
include hp

theorem cast_sub2 (x y : Gfp2) :
    ((sub2 p x y).c0 : ZMod p) = x.c0 - y.c0 ∧ ((sub2 p x y).c1 : ZMod p) = x.c1 - y.c1 := by
  simp [sub2, cast_subp hp]

theorem cast_mul2 (x y : Gfp2) :
    ((mul2 p x y).c0 : ZMod p) = x.c0 * y.c0 - x.c1 * y.c1 ∧
    ((mul2 p x y).c1 : ZMod p) = x.c0 * y.c1 + x.c1 * y.c0 := by
  simp [mul2, cast_subp hp]

/-- The registers that CSET loads from (A, C): A·4C = 2((A + 2C) + (A - 2C))·C. -/
theorem curveOf_consistent (a c : Gfp2) : CurveConsistent p (curveOf p a c) := by
  unfold CurveConsistent curveOf
  constructor
  · apply eq_of_cast_eq (sub2_below hp _ _) (sub2_below hp _ _) <;>
      simp only [cast_add2, cast_sub2 hp] <;> ring
  · apply eq_of_cast_eq (mul2_below hp _ _) (mul2_below hp _ _) <;>
      simp only [cast_add2, cast_sub2 hp, cast_mul2 hp, cast_k2] <;> ring

/-- GET3's shape of codomain: CA = 2(A24P + A24M) and CC = CC24 = A24P - A24M. -/
theorem consistent_of_a24p_a24m {a24p a24m : Gfp2} (hm : Below p a24m) :
    CurveConsistent p ⟨add2 p (add2 p a24p a24m) (add2 p a24p a24m), sub2 p a24p a24m, a24p, a24m, sub2 p a24p a24m⟩ := by
  constructor
  · apply eq_of_cast_eq hm (sub2_below hp _ _) <;> simp only [cast_sub2 hp] <;> ring
  · apply eq_of_cast_eq (mul2_below hp _ _) (mul2_below hp _ _) <;>
      simp only [cast_add2, cast_sub2 hp, cast_mul2 hp, cast_k2] <;> push_cast <;> ring

/-- GET4's shape of codomain: CA = 4·A24P - 2·C24, CC = CC24 = C24 and A24M = A24P - C24. -/
theorem consistent_of_a24p_c24 (a24p c24 : Gfp2) :
    CurveConsistent p ⟨sub2 p (mul2 p (k2 p 4) a24p) (add2 p c24 c24), c24, a24p, sub2 p a24p c24, c24⟩ := by
  constructor
  · rfl
  · apply eq_of_cast_eq (mul2_below hp _ _) (mul2_below hp _ _) <;>
      simp only [cast_add2, cast_sub2 hp, cast_mul2 hp, cast_k2] <;> push_cast <;> ring

theorem get3Curve_consistent (k : Point) : CurveConsistent p (get3Curve p k) :=
  consistent_of_a24p_a24m hp (mul2_below hp _ _)

theorem get4Curve_consistent (k : Point) : CurveConsistent p (get4Curve p k) := consistent_of_a24p_c24 hp _ _

theorem get4fCurve_consistent (a c : Gfp2) : CurveConsistent p (get4fCurve p a c) := curveOf_consistent hp _ _

theorem zeroCurve_consistent : CurveConsistent p .zero := by
  have hz : Below p .zero := zero_below hp
  constructor
  · apply eq_of_cast_eq hz (sub2_below hp _ _) <;> simp [cast_sub2 hp, CurveRegs.zero, Gfp2.zero]
  · apply eq_of_cast_eq (mul2_below hp _ _) (mul2_below hp _ _) <;> simp [cast_mul2 hp, CurveRegs.zero, Gfp2.zero]

end

/-- `t`, where it is configured, has the modulus and the curve of a configured `s`. -/
def KeepsCurve (s t : State) : Prop := t.cfgOk = true → s.cfgOk = true ∧ t.mod = s.mod ∧ t.curve = s.curve

/-- The consistency of R111 while CFG_OK = 1. -/
def Consistent (s : State) : Prop := s.cfgOk = true → CurveConsistent s.mod s.curve

theorem KeepsCurve.consistent {s t : State} (h : KeepsCurve s t) (hs : Consistent s) : Consistent t := fun ht => by
  obtain ⟨hc, hm, hcurve⟩ := h ht
  rw [hm, hcurve]
  exact hs hc

theorem KeepsCurve.of_eq {s t : State} (hc : t.cfgOk = s.cfgOk) (hm : t.mod = s.mod) (hcurve : t.curve = s.curve) :
    KeepsCurve s t := fun ht => ⟨hc ▸ ht, hm, hcurve⟩

theorem KeepsCurve.of_unconfigured {s t : State} (h : t.cfgOk = false) : KeepsCurve s t := fun ht => by simp [h] at ht

theorem KeepsCurve.refl (s : State) : KeepsCurve s s := .of_eq rfl rfl rfl

theorem writeCsr_keepsCurve (s : State) (off : Nat) (v : Word) : KeepsCurve s (s.writeCsr off v) := by
  obtain ⟨-, e⟩ | ⟨-, e⟩ | ⟨-, e⟩ | ⟨-, e⟩ | ⟨-, e⟩ | ⟨-, e⟩ | ⟨-, e⟩ := writeCsr_cases s off v <;> rw [e]
  · unfold State.writeCtrl
    split
    · exact .of_unconfigured rfl
    · exact .of_eq rfl rfl rfl
  · exact .of_eq rfl rfl rfl
  · unfold State.writeCmd
    split <;> exact .of_eq rfl rfl rfl
  · exact .of_eq rfl rfl rfl
  · exact .of_eq rfl rfl rfl
  · exact .of_eq rfl rfl rfl
  · exact .refl s

theorem memWrite_keepsCurve (s : State) (addr : HostAddr) (kind : AccessKind) (lanes : BitVec 4) (v : Word) :
    KeepsCurve s (s.memWrite addr kind lanes v) := by
  obtain ⟨-, e⟩ | ⟨-, e⟩ := memWrite_cases s addr kind lanes v <;> rw [e]
  · cases s.target addr with
    | csr off => exact writeCsr_keepsCurve s off v
    | modWord => exact .of_unconfigured rfl
    | scalarWord | fWord => exact .of_eq rfl rfl rfl
    | curveWord | coefWord | reserved => exact .refl s
  · exact .refl s

/-- No event of the host changes the curve of a CORE that it leaves configured. -/
theorem serveEvent_keepsCurve (e : HostEvent) (s : State) : KeepsCurve s (serveEvent e s) := by
  cases e with
  | read | rstRelease => exact .of_eq rfl rfl rfl
  | idle | wait => exact .refl s
  | write addr kind lanes v => exact memWrite_keepsCurve s addr kind lanes v
  | rstAssert => exact .of_unconfigured rfl

theorem serveCycle_keepsCurve (s : State) : KeepsCurve s (serveCycle s) := by
  unfold serveCycle
  split
  · exact .refl s
  · exact serveEvent_keepsCurve _ { s with host := _ }

/-- A command that writes the curve registers keeps the consistency when the curve it writes has it. -/
theorem Consistent.of_command {c : Checks} {effect s t : State} (h : Consistent s) (hn : command c effect s = .next t)
    (he : c.verdict s = .eNone → Consistent effect) : Consistent t := by
  obtain ⟨hv, rfl⟩ | ⟨-, rfl⟩ := command_next hn
  · exact he hv
  · exact h

/-- The same for a command that needs CFG_OK, and so a modulus. -/
theorem Consistent.of_ready {c : Checks} {effect s t : State} (h : Consistent s) (hs : Sound s)
    (hn : command c effect s = .next t) (he : Ready c s → Consistent effect) (hc : c.needsCfg = true := by rfl) :
    Consistent t :=
  h.of_command hn fun hv => he (hs.ready hc hv)

theorem consistent_setCurve {s : State} {c : CurveRegs} (hc : CurveConsistent s.mod c) : Consistent (s.setCurve c) :=
  fun _ => hc

section
variable {s : State} (h : Consistent s)
include h

theorem Consistent.setCoef (k : CoefRegs) : Consistent (s.setCoef k) := h
theorem Consistent.setIso (x : Iso) : Consistent (s.setIso x) := h
theorem Consistent.setFlags (g : Flags) : Consistent (s.setFlags g) := h

end

/-- Every command keeps the curve registers consistent: five write them, each with a consistent curve (R111). -/
theorem exec_consistent {i : Instr} {s t : State} (hs : Sound s) (h : Consistent s) (hn : exec i s = .next t) :
    Consistent t := by
  have w := exec_withinFrame hn
  cases hw : writesCurve i with
  | false =>
    have hi : i ≠ .config := by rintro rfl; simp [writesCurve] at hw
    exact (KeepsCurve.of_eq (w.configured hi).1 w.mod (w.curve hw)).consistent h
  | true =>
    match i, hw with
    | .config, _ =>
      refine h.of_command hn fun hv => (((consistent_setCurve ?_).setCoef _).setIso _).setFlags _
      exact zeroCurve_consistent (pos_of_acceptMod (acceptMod_of_config_verdict hv))
    | .cset .., _ =>
      exact h.of_ready hs hn fun k => (consistent_setCurve (curveOf_consistent k.mod_pos _ _)).setIso _
    | .get3 _, _ =>
      exact h.of_ready hs hn fun k => ((consistent_setCurve (get3Curve_consistent k.mod_pos _)).setCoef _).setIso _
    | .get4 _, _ =>
      exact h.of_ready hs hn fun k => ((consistent_setCurve (get4Curve_consistent k.mod_pos _)).setCoef _).setIso _
    | .get4f, _ =>
      exact h.of_ready hs hn fun k => ((consistent_setCurve (get4fCurve_consistent k.mod_pos _ _)).setCoef _).setIso _

end Sys2Proof.Safety

namespace Sys2Proof.Proofs
open Sys2Proof.Machine Sys2Proof.Claims Sys2Proof.Safety

/-- Settles O18: Sound as in O17, and the consistency kept by every command and every event of the host. -/
theorem everyStepKeepsTheCurveConsistent : Obligations.EveryStepKeepsTheCurveConsistent := by
  rintro s t ⟨hs, hc⟩ hn
  refine ⟨everyStepKeepsSound s t hs hn, ?_⟩
  obtain ⟨c, -, hr⟩ | ⟨-, rfl⟩ | ⟨c, -, rfl⟩ := step_cases hn
  · obtain ⟨i, -, he⟩ | ⟨-, rfl⟩ := runWord_cases hr
    · exact exec_consistent hs hc he
    · exact hc
  · exact (serveCycle_keepsCurve s).consistent hc
  · exact (serveCycle_keepsCurve (s.tick c)).consistent hc

end Sys2Proof.Proofs
end

section
/-! The life of a command in flight: its latency passes, and then its word runs on the state as it stands (R125, R1010). -/

namespace Sys2Proof.Machine

/-- A command does not read the latency counter, and its completion leaves nothing in flight (R1010). -/
theorem exec_withInflight (i : Instr) (s : State) (x : Option InFlight) : exec i { s with inflight := x } = exec i s := by
  cases i <;> rfl

theorem runWord_withInflight (w : Word) (s : State) (x : Option InFlight) :
    runWord w { s with inflight := x } = runWord w s := by
  unfold runWord
  cases decodeWord w with
  | none => rfl
  | some i => exact exec_withInflight i s x

/-- A command whose latency has passed completes, whatever the host does next. -/
theorem completesNow_zero (w : Word) (host : List HostEvent) : completesNow ⟨w, 0⟩ host = true := by
  unfold completesNow
  split <;> rfl

theorem serveCycle_of_quiet {s : State} (h : s.host = []) : serveCycle s = s := by simp [serveCycle, h]

/-- A cycle in which nothing comes from the host only counts the latency. -/
theorem step_of_quiet {s : State} {w : Word} {n : Nat} (h : s.inflight = some ⟨w, n + 1⟩) (hh : s.host = []) :
    step s = .next { s with inflight := some ⟨w, n⟩ } := by
  have hc : completesNow ⟨w, n + 1⟩ s.host = false := by simp [hh, completesNow]
  rw [step_of_waits h hc, serveCycle_of_quiet (s := s.tick _) hh]
  rfl

theorem run_succ {k : Nat} {s t : State} (h : step s = .next t) : core.run (k + 1) s = core.run k t := by
  have h' : core.step s = .next t := h
  simp only [Host.Core.run, h']

theorem run_one (s : State) : core.run 1 s = step s := by
  have h : core.step s = step s := rfl
  simp only [Host.Core.run, h]
  cases step s <;> rfl

end Sys2Proof.Machine

namespace Sys2Proof.Proofs
open Sys2Proof.Machine

/-- Settles O5: the three cases of a step, and a placed word has no latency left. -/
theorem stepRunsTheDecodedCommand : Obligations.StepRunsTheDecodedCommand := by
  have run : ∀ (s : State) (c : InFlight) (i : Instr), s.inflight = some c → completesNow c s.host = true →
      decodeWord c.word = some i → step s = exec i s := fun s c i hs hc hi => by
    rw [step_of_completes hs hc, runWord, hi]
  exact ⟨run, fun s nbits w i hi => run _ ⟨BitVec.ofNat 32 (w % 2 ^ nbits), 0⟩ i rfl (completesNow_zero ..) hi,
    fun s c hs hc => step_of_waits hs hc, fun s hs => step_of_idle hs⟩

/-- Settles O13, by induction on the cycles left: each one only counts, and the last runs the word. -/
theorem commandCompletesAfterItsLatency : Obligations.CommandCompletesAfterItsLatency := by
  intro n
  induction n with
  | zero =>
    intro s w h hh
    refine ⟨?_, fun k t hk ht => ?_⟩
    · rw [run_one, step_of_completes h (completesNow_zero ..)]
    · obtain rfl : k = 0 := by omega
      cases ht
      rw [← h]
  | succ n ih =>
    intro s w h hh
    have hstep := step_of_quiet h hh
    obtain ⟨hrun, hbefore⟩ := ih { s with inflight := some ⟨w, n⟩ } w rfl hh
    refine ⟨?_, fun k t hk ht => ?_⟩
    · rw [run_succ hstep, hrun, runWord_withInflight]
    · cases k with
      | zero =>
        cases ht
        rw [Nat.sub_zero, ← h]
      | succ k =>
        rw [run_succ hstep] at ht
        rw [hbefore k t (by omega) ht, Nat.succ_sub_succ]

end Sys2Proof.Proofs
end

section
/-! The registers' views, and the commands of the selector and the test: what the common frame answers for each outcome of
its checks (R1002), said for any command. -/

namespace Sys2Proof.Machine
open Sys2Proof.Claims

/-- A write of P[n] leaves every F register but its four alone (R103). -/
theorem setP_F_ne (s : State) {n : PReg} {x : FReg} (v : Point) (h : x.val / 4 ≠ n.val) : (s.setP n v).F x = s.F x := by
  have hne : ∀ e : EReg, e.val / 2 = n.val → x ≠ EReg.lo e ∧ x ≠ EReg.hi e := fun e he => by
    simp only [EReg.lo, EReg.hi, ne_eq, Fin.ext_iff]
    omega
  obtain ⟨hxl, hxh⟩ := hne (PReg.x n) (by simp [PReg.x])
  obtain ⟨hzl, hzh⟩ := hne (PReg.z n) (by simp [PReg.z]; omega)
  rw [State.setP, State.setE_F_ne _ _ hzl hzh, State.setE_F_ne _ _ hxl hxh]

section
variable {c : Checks} {s : State} (effect : State) (hi : c.illegal = false)
include hi

/-- E_NOCFG: a command that needs CFG_OK on a CORE without it. -/
theorem command_nocfg (hn : c.needsCfg = true) (hc : s.cfgOk = false) :
    command c effect s = .next (failed s .eNocfg) := by
  have hv : c.verdict s = .eNocfg := by simp [Checks.verdict, hi, hn, hc]
  rw [command_of_failed (by simp [hv]), hv, finish_error _ (by decide), failed]

variable (hc : s.cfgOk = true) (ha : c.aliased = false) (hp : c.usesNbits = true → s.nbits.toNat ≤ s.slot.width)
include hc ha hp

/-- With the checks before it passed, the verdict is that of the selector check and those after it. -/
theorem verdict_of_configured :
    c.verdict s =
      if c.usesSel && !(s.sel == 0#32 || s.sel == 1#32) then .eSel
      else if wrongTag c.tags s.iso.tag then .eIsostate
      else if c.sources.any (fun r => decide (s.mod ≤ s.F r)) then .eNoncanon
      else if c.badmod then .eBadmod
      else .eNone := by
  have hp' : (c.usesNbits && decide (s.slot.width < s.nbits.toNat)) = false := by simpa using hp
  simp [Checks.verdict, hi, hc, ha, hp']

/-- E_SEL: a command that uses SEL, with another value than 0 and 1. -/
theorem command_sel (hu : c.usesSel = true) (hs : ¬SelLegal s) : command c effect s = .next (failed s .eSel) := by
  have hv : c.verdict s = .eSel := by
    rw [verdict_of_configured hi hc ha hp, hu, if_pos (by simpa [SelLegal] using hs)]
  rw [command_of_failed (by simp [hv]), hv, finish_error _ (by decide), failed]

/-- E_NONCANON: a source at or above the modulus, with every earlier check passed. -/
theorem command_noncanon (hs : c.usesSel = true → SelLegal s) (ht : ∀ l, c.tags = some l → s.iso.tag ∈ l)
    (hr : ∃ r ∈ c.sources, s.mod ≤ s.F r) : command c effect s = .next (failed s .eNoncanon) := by
  have hsel : ¬ (c.usesSel && !(s.sel == 0#32 || s.sel == 1#32)) = true := by
    simpa [SelLegal, or_iff_not_imp_left] using hs
  have hv : c.verdict s = .eNoncanon := by
    rw [verdict_of_configured hi hc ha hp, if_neg hsel, (wrongTag_false_iff ..).mpr ht, if_neg (by decide),
      if_pos (by simpa using hr)]
  rw [command_of_failed (by simp [hv]), hv, finish_error _ (by decide), failed]

end

/-- A command that asks for no more than CFG_OK, a legal selector where it uses one and canonical sources completes with its
effect once it has them. -/
theorem command_completed {c : Checks} {s : State} (effect : State) (hi : c.illegal = false) (hc : s.cfgOk = true)
    (ha : c.aliased = false) (hp : c.usesNbits = false) (hs : c.usesSel = true → SelLegal s) (ht : c.tags = none)
    (hr : ∀ r ∈ c.sources, s.F r < s.mod) (hb : c.badmod = false) :
    command c effect s = .next (completed effect) := by
  rw [command_of_passed ((verdict_eNone_iff c s).mpr ⟨hi, fun _ => hc, ha, by simp [hp], hs, by simp [ht], hr, hb⟩),
    finish_eNone, completed]

end Sys2Proof.Machine

namespace Sys2Proof.Proofs
open Sys2Proof.Machine Sys2Proof.Claims

/-- Settles O22: the read-after-write laws of the views; that a view is its F registers is how it is defined. -/
theorem registerViewsShareStorage : Obligations.RegisterViewsShareStorage := by
  refine ⟨fun s r r' v => s.setF_F r r' v, fun s r v => ⟨s.setE_E_same r v, fun x hl hh => ?_⟩,
    fun s n v => ⟨s.setP_P_same n v, fun x hx => setP_F_ne s v hx⟩, fun s r x y hx hy => ?_, fun s n x z hx hz => ?_⟩
  · exact s.setE_F_ne v (fun e => hl (congrArg Fin.val e)) (fun e => hh (congrArg Fin.val e))
  · obtain rfl : x = EReg.lo r := Fin.ext hx
    obtain rfl : y = EReg.hi r := Fin.ext hy
    rfl
  · obtain rfl : x = PReg.x n := Fin.ext hx
    obtain rfl : z = PReg.z n := Fin.ext hz
    rfl

/-- Settles O29: SEL = 0 writes back what the registers hold, SEL = 1 the other operand. -/
theorem fpcswapFpcselFollowTheSelector : Obligations.FpcswapFpcselFollowTheSelector := by
  intro d a b s
  refine ⟨fun hc ha hb => ?_, fun i hi => ?_⟩
  · have hr : ∀ r ∈ [a, b], s.F r < s.mod := by simp [ha, hb]
    have swap : SelLegal s → exec (.fpcswap a b) s = .next (completed ((s.setF a (swapIf s.selBit (s.F a) (s.F b)).1).setF
        b (swapIf s.selBit (s.F a) (s.F b)).2)) := fun hs =>
      command_completed _ rfl hc rfl rfl (fun _ => hs) rfl hr rfl
    have select : SelLegal s → exec (.fpcsel d a b) s = .next (completed (s.setF d (selectIf s.selBit (s.F a) (s.F b)))) :=
      fun hs => command_completed _ rfl hc rfl rfl (fun _ => hs) rfl hr rfl
    constructor
    · intro h
      have hbit : s.selBit = false := by simp [State.selBit, h]
      exact ⟨by simp [swap (.inl h), hbit, swapIf], by simp [select (.inl h), hbit, selectIf]⟩
    · intro h
      have hbit : s.selBit = true := by simp [State.selBit, h]
      exact ⟨by simp [swap (.inr h), hbit, swapIf], by simp [select (.inr h), hbit, selectIf]⟩
  · rcases List.mem_pair.mp hi with rfl | rfl <;>
      exact ⟨command_nocfg _ rfl rfl, fun hc hs => command_sel _ rfl hc rfl nofun rfl hs,
        fun hc hs hr => command_noncanon _ rfl hc rfl nofun (fun _ => hs) nofun hr⟩

/-- Settles O30: the flags of Flags.ofTest, beside the frame's two errors. -/
theorem fptestComparesIntegers : Obligations.FptestComparesIntegers := by
  intro a b s
  exact ⟨fun hc ha hb => command_completed _ rfl hc rfl rfl nofun rfl (by simp [ha, hb]) rfl,
    command_nocfg _ rfl rfl, fun hc _ hr => command_noncanon _ rfl hc rfl nofun nofun nofun hr⟩

end Sys2Proof.Proofs
end

section
/-! The host's accesses told apart: what the bus refuses and what the busy rule blocks (20_memory.md R201, R210 to R213), and
that serving an event leaves the events to come alone (R240). -/

namespace Sys2Proof.Machine

theorem legalAccess_iff (addr : HostAddr) (kind : AccessKind) (lanes : BitVec 4) :
    legalAccess addr kind lanes = true ↔ addr.toNat % 4 = 0 ∧ kind = .word ∧ lanes = 0xF#4 := by
  simp [legalAccess]

section
variable {s : State} {addr : HostAddr} {kind : AccessKind} {lanes : BitVec 4}

theorem memRead_of_illegal (h : ¬ legalAccess addr kind 0xF#4 = true) : s.memRead addr kind = .error := by
  simp [State.memRead, h]

theorem memRead_of_blocked (h : busyBlocksRead s (s.target addr) = true) : s.memRead addr kind = .error := by
  simp [State.memRead, h]

/-- A write is answered with a bus error exactly when it is not answered `written`: there is no third answer. -/
theorem writeResp_error_iff : s.writeResp addr kind lanes = .error ↔ ¬ s.writeResp addr kind lanes = .written := by
  obtain ⟨h, -⟩ | ⟨h, -⟩ := memWrite_cases s addr kind lanes 0#32 <;> simp [h]

theorem writeResp_of_illegal (h : ¬ legalAccess addr kind lanes = true) : s.writeResp addr kind lanes = .error := by
  simp [writeResp_error_iff, writeResp_written_iff, h]

theorem writeResp_of_blocked (h : busyBlocksWrite s (s.target addr) = true) : s.writeResp addr kind lanes = .error := by
  simp [writeResp_error_iff, writeResp_written_iff, h]

/-- A write that gets a bus error changes no state (R212). -/
theorem memWrite_of_error (v : Word) (h : s.writeResp addr kind lanes = .error) : s.memWrite addr kind lanes v = s := by
  simp [State.memWrite, h]

/-- A legal word write that the busy rule lets through is answered `written`. -/
theorem writeResp_word_written (hr : s.inReset = false) (ha : addr.toNat % 4 = 0)
    (h : busyBlocksWrite s (s.target addr) = false) : s.writeResp addr .word 0xF#4 = .written :=
  (writeResp_written_iff ..).mpr ⟨hr, (legalAccess_iff ..).mpr ⟨ha, rfl, rfl⟩, h⟩

theorem State.target_csr (h : addr.toNat < 0x100) : s.target addr = .csr addr.toNat := by
  rw [State.target, targetOf, if_pos h]

/-- On a slot the busy rule blocks a write as it blocks a read: whenever the CORE is busy (R213). -/
theorem busyBlocks_of_isSlot {t : Target} (h : t.isSlot = true) :
    busyBlocksRead s t = s.busy ∧ busyBlocksWrite s t = s.busy := by
  cases t with
  | csr | reserved => cases h
  | modWord | scalarWord | curveWord | coefWord | fWord => exact ⟨Bool.and_true _, Bool.and_true _⟩

end

section
variable (s : State)

@[simp] theorem State.softReset_host : s.softReset.host = s.host := by simp only [softReset]
@[simp] theorem State.hardReset_host : s.hardReset.host = s.host := by simp only [hardReset]

theorem writeCsr_host (off : Nat) (v : Word) : (s.writeCsr off v).host = s.host := by
  obtain ⟨-, e⟩ | ⟨-, e⟩ | ⟨-, e⟩ | ⟨-, e⟩ | ⟨-, e⟩ | ⟨-, e⟩ | ⟨-, e⟩ := writeCsr_cases s off v <;> rw [e]
  · unfold State.writeCtrl
    split
    · exact s.softReset_host
    · rfl
  · rfl
  · unfold State.writeCmd
    split <;> rfl
  · rfl

theorem poke_host (v : Word) (t : Target) : (s.poke v t).host = s.host := by
  cases t with
  | csr off => exact writeCsr_host s off v
  | modWord | scalarWord | curveWord | coefWord | fWord | reserved => rfl

theorem memWrite_host (addr : HostAddr) (kind : AccessKind) (lanes : BitVec 4) (v : Word) :
    (s.memWrite addr kind lanes v).host = s.host := by
  obtain ⟨-, e⟩ | ⟨-, e⟩ := memWrite_cases s addr kind lanes v <;> rw [e]
  exact poke_host s v _

theorem serveEvent_host (e : HostEvent) : (serveEvent e s).host = s.host := by
  cases e with
  | read | idle | wait | rstRelease => rfl
  | write addr kind lanes v => exact memWrite_host s addr kind lanes v
  | rstAssert => exact s.hardReset_host

end

theorem serveCycle_of_next {s : State} {e : HostEvent} {rest : List HostEvent} (h : s.host = e :: rest) :
    serveCycle s = serveEvent e { s with host := rest } := by
  simp [serveCycle, h]

/-- A step in which no command completes is a cycle of the host's side, with the latency of a command in flight, if there is
one, counted (R125). -/
theorem step_of_not_completes {s : State} (h : ∀ c, s.inflight = some c → completesNow c s.host = false) :
    step s = .next (serveCycle { s with inflight := s.inflight.map fun c => ⟨c.word, c.left - 1⟩ }) := by
  cases hc : s.inflight with
  | none => rw [step_of_idle hc, Option.map_none, ← hc]
  | some c => exact step_of_waits hc (h c hc)

end Sys2Proof.Machine

namespace Sys2Proof.Proofs
open Sys2Proof.Machine

/-- Settles O52: the bus refuses what is no legal access, and a refused write has no effect; how an event is served is
serveEvent's definition. -/
theorem busErrorsChangeNothing : Obligations.BusErrorsChangeNothing := by
  refine ⟨fun s addr kind h => memRead_of_illegal ?_, fun s addr kind lanes h => writeResp_of_illegal ?_,
    fun s addr kind lanes v => memWrite_of_error v, fun _ _ _ => rfl, fun _ _ _ _ _ => rfl⟩
  · rw [legalAccess_iff]
    tauto
  · rw [legalAccess_iff]
    tauto

/-- Settles O53: the busy rule blocks a slot and the writes of three CSRs, and nothing else. -/
theorem busyBlocksTheWindows : Obligations.BusyBlocksTheWindows := by
  intro s addr hr hb ha
  refine ⟨fun hs => ?_, fun hc => ?_, memRead_csr hr ha, fun hc => ?_, fun ht => ?_⟩
  · obtain ⟨hread, hwrite⟩ := busyBlocks_of_isSlot (s := s) hs
    have he : s.writeResp addr .word 0xF#4 = .error := writeResp_of_blocked (hwrite.trans hb)
    exact ⟨memRead_of_blocked (hread.trans hb), he, fun v => memWrite_of_error v he⟩
  · have he : s.writeResp addr .word 0xF#4 = .error := by
      apply writeResp_of_blocked
      simp only [List.mem_cons, List.not_mem_nil, or_false] at hc
      rw [State.target_csr (by omega)]
      simpa [busyBlocksWrite, hb, idleOnlyCsr] using hc
    exact ⟨he, fun v => memWrite_of_error v he⟩
  · apply writeResp_word_written hr ha
    simp only [List.mem_cons, List.not_mem_nil, or_false] at hc
    rw [State.target_csr (by omega)]
    obtain h | h | h := hc <;> simp [busyBlocksWrite, idleOnlyCsr, h]
  · exact ⟨memRead_of_reserved hr ha ht, writeResp_word_written hr ha (by simp [busyBlocksWrite, ht, Target.isSlot])⟩

/-- Settles O59: such a step is a cycle of the host's side, which serves the first event. -/
theorem hostEventsAreServedInOrder : Obligations.HostEventsAreServedInOrder := by
  refine ⟨fun s h => ⟨fun hh => ?_, fun e rest hh => ?_⟩, fun _ => ⟨rfl, rfl, rfl⟩, fun e s => serveEvent_host s e⟩
  · exact (step_of_not_completes h).trans (congrArg _ (serveCycle_of_quiet hh))
  · exact (step_of_not_completes h).trans (congrArg _ (serveCycle_of_next hh))

end Sys2Proof.Proofs
end

section
/-! The bytes of the slots (20_memory.md R205, R207): a byte is read from the word at the aligned address below it, and its
place in that word is its place in the register. -/

namespace Sys2Proof.Machine
open Sys2Proof.Claims

/-- Byte j of a slot, which is byte j mod 4 of its word j / 4, holds the register's bits v[W-1-8j : W-8-8j] (R205, R207). -/
theorem extract_slotWord {w v j : Nat} (h : 32 * (j / 4) + 32 ≤ w) :
    (slotWord w v (j / 4)).extractLsb' (24 - 8 * (j % 4)) 8 = bigEndianByte w v j := by
  apply BitVec.eq_of_getLsbD_eq
  intro i hi
  have hin : 24 - 8 * (j % 4) + i < 32 := by omega
  have hbit : 24 - 8 * (j % 4) + i + (w - 32 - 32 * (j / 4)) = i + (w - 8 - 8 * j) := by omega
  simp only [slotWord, bigEndianByte, BitVec.getLsbD_extractLsb', BitVec.getLsbD_ofNat, Nat.testBit_div_two_pow, hi, hin,
    hbit, decide_true, Bool.true_and]

/-- Byte j of a slot at a, whose word k is the target `word k` and holds word k of the register v. -/
theorem readByte_slot {s : State} {a j v : Nat} (word : Nat → Target) (ha : a % 4 = 0) (hfit : a + s.slot.bytes ≤ 2 ^ 16)
    (hj : j < s.slot.bytes) (hmap : ∀ {o}, o < s.slot.bytes → targetOf s.slot.bytes (a + o) = word (o / 4))
    (hword : ∀ k, s.peek (word k) = slotWord s.slot.width v k) :
    s.readByte (BitVec.ofNat 16 (a + j)) = bigEndianByte s.slot.width v j := by
  have haddr : (BitVec.ofNat 16 (a + j)).toNat = a + j := by
    rw [BitVec.toNat_ofNat, Nat.mod_eq_of_lt (by omega)]
  have hbyte : (a + j) % 4 = j % 4 := by omega
  have hbase : a + j - j % 4 = a + (j - j % 4) := by omega
  have hk : (j - j % 4) / 4 = j / 4 := by omega
  have hdvd := s.slot.four_dvd_bytes
  rw [State.readByte, State.target, wordBase_toNat, haddr, hbyte, hbase, hmap (by omega), hk, hword]
  exact extract_slotWord (by unfold SlotBytes.width; omega)

/-- The ten slots of a window: register k's component c lies in slot 2k + c, which holds `value (2k + c)` (R220). -/
def slotTable (value : Nat → Nat) : List (Nat × Nat × Nat) :=
  (List.range 10).map fun j => (j / 2, j % 2, value j)

theorem slot_of_mem_slotTable {value : Nat → Nat} {k c v : Nat} (h : (k, c, v) ∈ slotTable value) :
    ∃ j : Fin 10, 2 * k + c = j.val ∧ value j.val = v := by
  obtain ⟨j, hj, he⟩ := List.mem_map.mp h
  cases he
  exact ⟨⟨j, List.mem_range.mp hj⟩, Nat.div_add_mod j 2, rfl⟩

end Sys2Proof.Machine

namespace Sys2Proof.Proofs
open Sys2Proof.Machine

/-- Settles O58, window by window, with the slots of R220 and the words they hold. -/
theorem slotsAreBigEndian : Obligations.SlotsAreBigEndian := by
  intro s j hj
  have hS := s.slot.bytes_le
  have hdvd := s.slot.four_dvd_bytes
  have slot : ∀ {n i : Nat}, i < n → i * s.slot.bytes + s.slot.bytes ≤ n * 256 ∧ 4 ∣ i * s.slot.bytes := fun {n i} h =>
    ⟨by rw [← Nat.succ_mul]; exact Nat.mul_le_mul h hS, hdvd.mul_left i⟩
  refine ⟨?_, ?_, fun i => ?_, fun k c v h => ?_, fun k c v h => ?_⟩
  · exact readByte_slot .modWord rfl (by omega) hj (targetOf_modSlot · hS) fun _ => rfl
  · exact readByte_slot .scalarWord rfl (by omega) hj (targetOf_scalarSlot · hS) fun _ => rfl
  · obtain ⟨hfit, halign⟩ := slot i.isLt
    exact readByte_slot (.fWord i) (by omega) (by omega) hj (targetOf_fSlot · hS i) fun _ => rfl
  · obtain ⟨i, hi, rfl⟩ := slot_of_mem_slotTable (value := s.curve.slotValue) h
    obtain ⟨hfit, halign⟩ := slot i.isLt
    rw [hi]
    exact readByte_slot (.curveWord i) (by omega) (by omega) hj (targetOf_curveSlot · hS i) fun _ => rfl
  · obtain ⟨i, hi, rfl⟩ := slot_of_mem_slotTable (value := s.coef.slotValue) h
    obtain ⟨hfit, halign⟩ := slot i.isLt
    rw [hi]
    exact readByte_slot (.coefWord i) (by omega) (by omega) hj (targetOf_coefSlot · hS i) fun _ => rfl

end Sys2Proof.Proofs
end

section
/-! The encoding of 30_encoding.md: the decoder and the encoder are each other's inverse on well-formed commands and legal
words, and the rows of the opcode map (R304) admit exactly those words. -/

namespace Sys2Proof

/-! A word is its fields (R300). -/

theorem encodeR_fields (v : Word) : encodeR (opField v) (dField v) (aField v) (bField v) (cField v) = v := by
  apply BitVec.eq_of_getLsbD_eq
  intro i h
  simp only [encodeR, opField, dField, aField, bField, cField, BitVec.getLsbD_extractLsb', BitVec.getLsbD_append]
  grind

theorem encodeI_fields (v : Word) : encodeI (opField v) (dField v) (immField v) = v := by
  apply BitVec.eq_of_getLsbD_eq
  intro i h
  simp only [encodeI, opField, dField, immField, BitVec.getLsbD_extractLsb', BitVec.getLsbD_append]
  grind

theorem encodeR_eq_iff {op : BitVec 8} {d a b c : BitVec 6} {v : Word} :
    encodeR op d a b c = v ↔ opField v = op ∧ dField v = d ∧ aField v = a ∧ bField v = b ∧ cField v = c := by
  refine ⟨fun h => by simp [← h], fun ⟨ho, hd, ha, hb, hc⟩ => ?_⟩
  rw [← encodeR_fields v, ho, hd, ha, hb, hc]

theorem encodeI_eq_iff {op : BitVec 8} {d : BitVec 6} {imm : Imm18} {v : Word} :
    encodeI op d imm = v ↔ opField v = op ∧ dField v = d ∧ immField v = imm := by
  refine ⟨fun h => by simp [← h], fun ⟨ho, hd, hi⟩ => ?_⟩
  rw [← encodeI_fields v, ho, hd, hi]

/-! What a read of a field answers is what the field encodes (R301). -/

@[simp] theorem toNat_ofE (r : EReg) : (ofE r).toNat = r.val := by
  rw [ofE, BitVec.toNat_ofNat, Nat.mod_eq_of_lt (by omega)]

@[simp] theorem ofF_asF (x : BitVec 6) : ofF (asF x) = x := by simp [ofF, asF]

theorem asE_eq_some_iff {x : BitVec 6} {r : EReg} : asE x = some r ↔ x = ofE r := by
  refine ⟨fun h => ?_, fun h => h ▸ asE_ofE r⟩
  obtain ⟨_, he⟩ := Option.dite_none_right_eq_some.mp h
  cases he
  simp [ofE]

theorem asP_eq_some_iff {x : BitVec 6} {r : PReg} : asP x = some r ↔ x = ofP r := by
  refine ⟨fun h => ?_, fun h => h ▸ asP_ofP r⟩
  obtain ⟨_, he⟩ := Option.dite_none_right_eq_some.mp h
  cases he
  simp [ofP]

theorem isZero_eq_some_iff {x : BitVec 6} {u : Unit} : isZero x = some u ↔ x = zero6 := by
  simp [isZero, zero6_eq]

/-! The decoder and the encoder. -/

theorem decodeWord_encode {i : Instr} (h : i.wf = true) : decodeWord (encode i) = some i := by
  cases i with
  | inv3 d | inv4 d =>
    have hd := of_decide_eq_true h
    simp [encode, decodeWord, hd]
  | _ => simp [encode, decodeWord]

/-- Each row of the decoder reads its fields in turn, and every read pins its field down to the operand's encoding; the rows
of INV3 and INV4 bound d besides, as their well-formedness does. -/
theorem encode_of_decodeWord {v : Word} {i : Instr} : decodeWord v = some i → i.wf = true ∧ encode i = v := by
  unfold decodeWord
  split
  case h_43 => nofun -- no row has the opcode
  all_goals
    simp only [Option.bind_eq_bind, Option.bind_eq_some_iff, asE_eq_some_iff, asP_eq_some_iff, isZero_eq_some_iff,
      Option.ite_none_right_eq_some, Option.some.injEq, forall_exists_index, and_imp]
    intros
    subst_vars
    simp [Instr.wf, encode, encodeR_eq_iff, encodeI_eq_iff, *]

/-! The opcode map's match and mask, field by field. -/

theorem fields_of_and_eq {v m w : Word} (h : v &&& m = w) :
    opField v &&& opField m = opField w ∧ dField v &&& dField m = dField w ∧ aField v &&& aField m = aField w ∧
      bField v &&& bField m = bField w ∧ cField v &&& cField m = cField w := by
  subst h
  simp [opField, dField, aField, bField, cField, BitVec.extractLsb'_and]

/-- Every row fixes the whole opcode, and 0 for the other bits that it fixes. -/
theorem opcodeTable_fields : ∀ r ∈ opcodeTable, opField r.mask = BitVec.allOnes 8 ∧ dField r.matchBits = 0#6 ∧
    aField r.matchBits = 0#6 ∧ bField r.matchBits = 0#6 ∧ cField r.matchBits = 0#6 := by decide

theorem fields_of_row {v : Word} {r : OpcodeRow} (hr : r ∈ opcodeTable) (h : v &&& r.mask = r.matchBits) :
    opField v = opField r.matchBits ∧ dField v &&& dField r.mask = 0#6 ∧ aField v &&& aField r.mask = 0#6 ∧
      bField v &&& bField r.mask = 0#6 ∧ cField v &&& cField r.mask = 0#6 := by
  have hf := fields_of_and_eq h
  obtain ⟨hm, hd, ha, hb, hc⟩ := opcodeTable_fields r hr
  rwa [hm, BitVec.and_allOnes, hd, ha, hb, hc] at hf

/-! A field with no bit of its kind's mask set is read. -/

theorem toNat_lt_of_and_bit5 {x : BitVec 6} (h : x &&& 0x20#6 = 0#6) : x.toNat < 32 := by revert x; decide
theorem toNat_lt_of_and_bits54 {x : BitVec 6} (h : x &&& 0x30#6 = 0#6) : x.toNat < 16 := by revert x; decide

theorem asE_of_and_bit5 {x : BitVec 6} (h : x &&& 0x20#6 = 0#6) : asE x = some ⟨x.toNat, toNat_lt_of_and_bit5 h⟩ :=
  dif_pos _
theorem asP_of_and_bits54 {x : BitVec 6} (h : x &&& 0x30#6 = 0#6) : asP x = some ⟨x.toNat, toNat_lt_of_and_bits54 h⟩ :=
  dif_pos _
theorem isZero_of_and_ones {x : BitVec 6} (h : x &&& 0x3F#6 = 0#6) : isZero x = some () := by revert x; decide

/-- The bound that R301 sets on field d of the rows INV3 and INV4. -/
def OpcodeRow.Bounds (r : OpcodeRow) (v : Word) : Prop :=
  (r.mnemonic = "INV3" → (dField v).toNat ≤ 29) ∧ (r.mnemonic = "INV4" → (dField v).toNat ≤ 28)

/-- A word that a row admits decodes: the decoder's row for that opcode reads each field, since the mask has cleared the bits
that the field's kind excludes. -/
theorem decodeWord_isSome_of_row {v : Word} {r : OpcodeRow} (hr : r ∈ opcodeTable) (h : v &&& r.mask = r.matchBits)
    (hbound : r.Bounds v) : (decodeWord v).isSome = true := by
  obtain ⟨ho, hd, ha, hb, hc⟩ := fields_of_row hr h
  clear h
  unfold OpcodeRow.Bounds at hbound
  unfold decodeWord
  generalize opField v = op, dField v = d, aField v = a, bField v = b, cField v = c at *
  fin_cases hr
  all_goals
    simp only [opField, dField, aField, bField, cField, BitVec.reduceExtractLsb'] at ho hd ha hb hc
    simp_all [asE_of_and_bit5, asP_of_and_bits54, isZero_of_and_ones]

end Sys2Proof

namespace Sys2Proof.Laws.EncodingRow

/-- The command's word is admitted by the command's row (R304). -/
theorem row_admits_encode (i : Instr) : Statement i :=
  match i with
  | .nop => nop | .config => config | .fpadd d a b => fpadd d a b | .fpsub d a b => fpsub d a b
  | .fpmul d a b => fpmul d a b | .fpsqr d a => fpsqr d a | .fpneg d a => fpneg d a | .fpdiv2 d a => fpdiv2 d a
  | .fpmov d a => fpmov d a | .fpseti d imm => fpseti d imm | .fpcswap a b => fpcswap a b
  | .fpcsel d a b => fpcsel d a b | .fptest a b => fptest a b | .fp2add d a b => fp2add d a b
  | .fp2sub d a b => fp2sub d a b | .fp2mul d a b => fp2mul d a b | .fp2sqr d a => fp2sqr d a
  | .fp2neg d a => fp2neg d a | .fp2div2 d a => fp2div2 d a | .fp2mov d a => fp2mov d a
  | .fp2cswap a b => fp2cswap a b | .fp2csel d a b => fp2csel d a b | .fp2test a b => fp2test a b
  | .fpinv d a => fpinv d a | .fp2inv d a => fp2inv d a | .inv3 d => inv3 d | .inv4 d => inv4 d
  | .cset a b => cset a b | .cget d a => cget d a | .xdbl d a => xdbl d a | .xtpl d a => xtpl d a
  | .xadd d a b c => xadd d a b c | .xdbladd d a b => xdbladd d a b | .pcswap a b => pcswap a b | .jinv d => jinv d
  | .recova d a b c => recova d a b c | .ladder d a b c => ladder d a b c | .get3 a => get3 a
  | .eval3 d a => eval3 d a | .get4 a => get4 a | .eval4 d a => eval4 d a | .get4f => get4f

/-- A well-formed command keeps its row's bound on d. -/
theorem bounds_of_wf {i : Instr} (h : i.wf = true) : (row i).Bounds (encode i) := by
  cases i with
  | inv3 d | inv4 d =>
    have hd := of_decide_eq_true h
    simp [OpcodeRow.Bounds, row, encode, hd]
  | _ => simp [OpcodeRow.Bounds, row]

end Sys2Proof.Laws.EncodingRow

namespace Sys2Proof.Machine
open Sys2Proof.Claims

/-- E_ILLEGAL comes before every other check (R1002). -/
theorem command_illegal {c : Checks} {s : State} (effect : State) (h : c.illegal = true) :
    command c effect s = .next (failed s .eIllegal) := by
  have hv : c.verdict s = .eIllegal := by simp [Checks.verdict, h]
  rw [command_of_failed (by simp [hv]), hv, finish_error _ (by decide), failed]

/-- An illegal word completes with E_ILLEGAL (R303). -/
theorem runWord_of_illegal {w : Word} (s : State) (h : decodeWord w = none) :
    runWord w s = .next (failed s .eIllegal) := by
  rw [runWord, h, finish_error _ (by decide), failed]

end Sys2Proof.Machine

namespace Sys2Proof.Proofs
open Sys2Proof.Machine Sys2Proof.Laws

/-- Settles O1: each field of the encoding is read back as the operand it was made from. -/
theorem encodeThenDecodeGivesTheCommand : Obligations.EncodeThenDecodeGivesTheCommand :=
  fun _ h => decodeWord_encode h

/-- Settles O2: the fields that the decoder reads determine the whole word. -/
theorem decodeThenEncodeGivesTheWord : Obligations.DecodeThenEncodeGivesTheWord :=
  fun _ _ h => encode_of_decodeWord h

/-- Settles O3: a legal word is admitted by the row of the command that it encodes, and what a row admits decodes. -/
theorem maskAndMatchGiveTheLegalWords : Obligations.MaskAndMatchGiveTheLegalWords := by
  refine fun v => ⟨fun h => ?_, fun ⟨r, hr, hv, hbound⟩ => decodeWord_isSome_of_row hr hv hbound⟩
  obtain ⟨i, hi⟩ := Option.isSome_iff_exists.mp h
  obtain ⟨hw, rfl⟩ := encode_of_decodeWord hi
  obtain ⟨hrow, hadmits⟩ := EncodingRow.row_admits_encode i
  exact ⟨EncodingRow.row i, hrow, hadmits, EncodingRow.bounds_of_wf hw⟩

/-- Settles O4: the legal words are the encodings of their commands, and the illegal ones have a bit outside a field's kind, a
d out of range or a reserved opcode. -/
theorem workedEncodingsDecode : Obligations.WorkedEncodingsDecode :=
  ⟨decodeWord_encode (i := .fp2mul 3 1 2) rfl, decodeWord_encode (i := .fpseti 5 431#18) rfl,
    decodeWord_encode (i := .ladder 2 0 1 2) rfl, decodeWord_encode (i := .xadd 1 2 3 20) rfl,
    decodeWord_encode (i := .fpcswap 7 9) rfl, decodeWord_encode (i := .inv4 8) rfl,
    decodeWord_encode (i := .get3 4) rfl, decodeWord_encode (i := .eval4 5 5) rfl,
    decodeWord_encode (i := .cset 30 31) rfl, decodeWord_encode (i := .config) rfl, by decide⟩

/-- Settles O6: an illegal word runs as E_ILLEGAL; a word that decodes has its row's opcode; and the bound on d is the first
check of INV3 and INV4. -/
theorem illegalWordsCompleteAsIllegal : Obligations.IllegalWordsCompleteAsIllegal := by
  refine ⟨fun s c hs hc hw => ?_, fun v hv => ?_, fun d s hd => ?_, fun d s hd => ?_⟩
  · rw [step_of_completes hs hc, runWord_of_illegal s hw]
  · rw [Option.eq_none_iff_forall_ne_some]
    intro i hi
    obtain ⟨-, rfl⟩ := encode_of_decodeWord hi
    obtain ⟨hrow, hadmits⟩ := EncodingRow.row_admits_encode i
    exact hv _ hrow (fields_of_row hrow hadmits).1
  · exact command_illegal _ (decide_eq_true hd)
  · exact command_illegal _ (decide_eq_true hd)

end Sys2Proof.Proofs
end

section
/-! The acceptance predicate of CONFIG (40_gfp.md R402): the fast exponentiation and the bit length read as exact powers, and
the Euler criterion, by which a prime modulus passes the test to every base. -/

namespace Sys2Proof.Machine

/-- A bit length is at most n exactly below 2^n (R30). -/
theorem bitlength_le_iff (v n : Nat) : bitlength v ≤ n ↔ v < 2 ^ n := by
  unfold bitlength
  split
  case isTrue h => simp [h]
  case isFalse h => rw [Nat.succ_le_iff, Nat.log2_lt h]

/-- Condition 3 of R402 for one base, in exact powers. -/
theorem strongProbable_iff (m q : Nat) :
    strongProbable m q = true ↔ q % m = 0 ∨ q ^ ((m - 1) / 2) % m = 1 ∨ q ^ ((m - 1) / 2) % m = m - 1 := by
  simp [strongProbable, powMod_eq]

/-- The three conditions of R402. -/
theorem acceptMod_iff (w m : Nat) :
    acceptMod w m = true ↔ m % 4 = 3 ∧ m < 2 ^ (w - 1) ∧
      ∀ q ∈ mrBases, q % m = 0 ∨ q ^ ((m - 1) / 2) % m = 1 ∨ q ^ ((m - 1) / 2) % m = m - 1 := by
  simp only [acceptMod, Bool.and_eq_true, beq_iff_eq, decide_eq_true_eq, List.all_eq_true, bitlength_le_iff,
    strongProbable_iff]

/-- Euler's criterion on remainders: the power (m-1)/2 of a number that the odd prime m does not divide is 1 or -1. -/
theorem pow_half_mod_of_prime {m : Nat} (hm : m.Prime) (hodd : m % 2 = 1) (q : Nat) :
    q % m = 0 ∨ q ^ ((m - 1) / 2) % m = 1 ∨ q ^ ((m - 1) / 2) % m = m - 1 := by
  have : Fact m.Prime := ⟨hm⟩
  have mod_of_cast : ∀ r < m, ((q ^ ((m - 1) / 2) : Nat) : ZMod m) = (r : Nat) → q ^ ((m - 1) / 2) % m = r :=
    fun r hr h => by rwa [ZMod.natCast_eq_natCast_iff', Nat.mod_eq_of_lt hr] at h
  have hhalf : (m - 1) / 2 = m / 2 := by omega
  by_cases hq : (q : ZMod m) = 0
  · exact .inl (Nat.mod_eq_zero_of_dvd ((ZMod.natCast_eq_zero_iff q m).mp hq))
  · obtain h | h := ZMod.pow_div_two_eq_neg_one_or_one m hq
    · exact .inr (.inl (mod_of_cast 1 hm.one_lt (by simp [hhalf, h])))
    · exact .inr (.inr (mod_of_cast (m - 1) (Nat.sub_one_lt hm.ne_zero) (by simp [hhalf, h, Nat.cast_sub hm.one_le])))

end Sys2Proof.Machine

namespace Sys2Proof.Proofs
open Sys2Proof.Machine

/-- Settles O24: the bases of R21 are those of the statement. -/
theorem acceptIsTheStrongProbablePrimeTest : Obligations.AcceptIsTheStrongProbablePrimeTest := acceptMod_iff

/-- Settles O25: a prime meets the third condition of R402 for every base. -/
theorem everyPrimeModulusIsAccepted : Obligations.EveryPrimeModulusIsAccepted := fun w m hm hmod hlt =>
  (acceptMod_iff w m).mpr ⟨hmod, hlt, fun q _ => pow_half_mod_of_prime hm (by omega) q⟩

end Sys2Proof.Proofs
end

section
/-! The control and GF(p) commands of 40_gfp.md: each operation of Machine/Field.lean on canonical operands in exact
arithmetic, and what the common frame answers when a command checks no more than CFG_OK and its sources. -/

namespace Sys2Proof.Machine
open Sys2Proof.Claims

/-- The difference modulo p (R411). -/
theorem subp_eq_toNat_emod {p : Nat} (hp : 0 < p) (a b : Nat) : subp p a b = (((a : Int) - b) % p).toNat := by
  have h : ((subp p a b : Nat) : Int) % p = ((a : Int) - b) % p :=
    (ZMod.intCast_eq_intCast_iff' _ _ p).mp (by simp [cast_subp hp])
  rw [← h, ← Int.natCast_mod, Int.toNat_natCast, Nat.mod_eq_of_lt (subp_lt hp a b)]

/-- The square modulo p (R413). -/
theorem mulp_self (p a : Nat) : mulp p a a = a ^ 2 % p := by rw [mulp, sq]

/-- The negation of a canonical value (R414). -/
theorem negp_of_lt {p a : Nat} (h : a < p) : negp p a = if a = 0 then 0 else p - a := by
  rw [negp, Nat.mod_eq_of_lt h]
  split
  case isTrue h0 => simp [h0]
  case isFalse h0 => exact Nat.mod_eq_of_lt (by omega)

/-- The half doubled is the operand again, modulo an odd p (R415). -/
theorem two_mul_div2p_mod {p x : Nat} (hp : p % 2 = 1) (hx : x < p) : 2 * div2p p x % p = x := by
  unfold div2p
  split
  case isTrue h => rw [Nat.mul_div_cancel' (by omega), Nat.add_mod_right, Nat.mod_eq_of_lt hx]
  case isFalse h => rw [Nat.mul_div_cancel' (by omega), Nat.mod_eq_of_lt hx]

/-- How a command ends that checks nothing but the modulus, as CONFIG does, and NOP not even that (R1004). -/
theorem command_control (bad : Bool) (effect s : State) :
    command { needsCfg := false, badmod := bad } effect s =
      .next (if bad then failed s .eBadmod else completed effect) := by
  have hv : Checks.verdict { needsCfg := false, badmod := bad } s = if bad then .eBadmod else .eNone := by
    simp [Checks.verdict, wrongTag]
  cases bad with
  | false => rw [command_of_passed hv, finish_eNone]; rfl
  | true => rw [command_of_failed (by simp [hv]), hv]; exact congrArg _ (finish_error s (by decide))

section
variable {rs : List FReg} {s : State}

/-- A command that checks no more than CFG_OK and the sources `rs` completes with its effect when they are canonical. -/
theorem command_of_canonical (effect : State) (hc : s.cfgOk = true) (hr : Canonical s rs) :
    command { sources := rs } effect s = .next (completed effect) :=
  command_completed effect rfl hc rfl rfl nofun rfl hr rfl

/-- The two errors of such a command. -/
theorem errors_of_sources {i : Instr} {effect : State} (h : exec i s = command { sources := rs } effect s) :
    NeedsConfig i s ∧ NeedsCanonical i rs True s :=
  ⟨fun hc => h.trans (command_nocfg effect rfl rfl hc),
    fun hc _ hr => h.trans (command_noncanon effect rfl hc rfl nofun nofun nofun hr)⟩

end

end Sys2Proof.Machine

namespace Sys2Proof.Proofs
open Sys2Proof.Machine Sys2Proof.Claims

/-- Settles O23: the only check of the two commands is that of the modulus. -/
theorem nopAndConfigComplete : Obligations.NopAndConfigComplete := by
  refine ⟨fun s => command_control false s s, fun s h => (command_control _ _ s).trans ?_,
    fun s h => (command_control _ _ s).trans ?_⟩
  · rw [h]; rfl
  · rw [h]; rfl

/-- Settles O26: the operations of Machine/Field.lean are the sum, the difference and the product modulo p. -/
theorem fpaddFpsubFpmulWriteTheModularResult : Obligations.FpaddFpsubFpmulWriteTheModularResult := by
  intro d a b s
  refine ⟨fun hc ha hb => ?_, fun i hi => ?_⟩
  · have hr : Canonical s [a, b] := by simp [Canonical, ha, hb]
    rw [← subp_eq_toNat_emod (Nat.zero_lt_of_lt ha)]
    exact ⟨command_of_canonical _ hc hr, command_of_canonical _ hc hr, command_of_canonical _ hc hr⟩
  · simp only [List.mem_cons, List.not_mem_nil, or_false] at hi
    obtain rfl | rfl | rfl := hi <;> exact errors_of_sources rfl

/-- Settles O27: the square and the negation of a canonical value; FPSETI has no source. -/
theorem fpsqrFpnegFpmovFpsetiWriteTheirResult : Obligations.FpsqrFpnegFpmovFpsetiWriteTheirResult := by
  intro d a imm s
  refine ⟨fun hc ha => ?_, fun hc => command_of_canonical _ hc nofun, (errors_of_sources rfl).1, fun i hi => ?_⟩
  · have hr : Canonical s [a] := by simp [Canonical, ha]
    rw [← mulp_self, ← negp_of_lt ha]
    exact ⟨command_of_canonical _ hc hr, command_of_canonical _ hc hr, command_of_canonical _ hc hr⟩
  · simp only [List.mem_cons, List.not_mem_nil, or_false] at hi
    obtain rfl | rfl | rfl := hi <;> exact errors_of_sources rfl

/-- Settles O28: the half is what the model's division answers. -/
theorem fpdiv2WritesTheHalf : Obligations.Fpdiv2WritesTheHalf := by
  intro d a s
  refine ⟨fun hc hp ha => ⟨div2p s.mod (s.F a), ?_, div2p_lt ha, two_mul_div2p_mod hp ha, rfl⟩, errors_of_sources rfl⟩
  exact command_of_canonical _ hc (by simp [Canonical, ha])

end Sys2Proof.Proofs
end

section
/-! The GF(p^2) commands of 41_gfp2.md: each operation of Machine/Field.lean as the Gaussian integers' reduced modulo p, and
what the common frame answers when a command checks the selector beside CFG_OK and its sources. -/

namespace Sys2Proof.Machine
open Sys2Proof.Claims Sys2Proof.Safety

section
variable {p : Nat} (hp : 0 < p)
include hp

/-- A residue read back as a natural number keeps its class modulo p. -/
theorem cast_toNat_emod (n : Int) : ((n % (p : Int)).toNat : ZMod p) = n := by
  have hpos : 0 ≤ n % (p : Int) := Int.emod_nonneg n (by omega)
  rw [← Int.cast_natCast, Int.toNat_of_nonneg hpos, ZMod.intCast_mod]

theorem reduce_below (g : GaussianInt) : Below p (reduce p g) := by
  have hlt : ∀ n : Int, (n % (p : Int)).toNat < p := fun n => by
    have := Int.emod_lt_of_pos n (Int.natCast_pos.mpr hp)
    omega
  exact ⟨hlt g.re, hlt g.im⟩

/-- A canonical value is the reduction of every Gaussian integer with its components modulo p (R33). -/
theorem eq_reduce_of_cast {x : Gfp2} {g : GaussianInt} (hx : Below p x) (h0 : (x.c0 : ZMod p) = g.re)
    (h1 : (x.c1 : ZMod p) = g.im) : x = reduce p g :=
  eq_of_cast_eq hx (reduce_below hp g) (h0.trans (cast_toNat_emod hp g.re).symm)
    (h1.trans (cast_toNat_emod hp g.im).symm)

/-! Each operation of GF(p^2) in exact Gaussian arithmetic (R33). -/

theorem add2_eq_reduce (x y : Gfp2) : add2 p x y = reduce p (gauss x + gauss y) := by
  apply eq_reduce_of_cast hp (add2_below hp x y) <;> simp [cast_add2, gauss]

theorem sub2_eq_reduce (x y : Gfp2) : sub2 p x y = reduce p (gauss x - gauss y) := by
  apply eq_reduce_of_cast hp (sub2_below hp x y) <;> simp [cast_sub2 hp, gauss]

theorem neg2_eq_reduce (x : Gfp2) : neg2 p x = reduce p (-gauss x) := by
  apply eq_reduce_of_cast hp (neg2_below hp x) <;> simp [neg2, cast_negp hp, gauss]

/-- i^2 = -1. -/
theorem mul2_eq_reduce (x y : Gfp2) : mul2 p x y = reduce p (gauss x * gauss y) := by
  apply eq_reduce_of_cast hp (mul2_below hp x y) <;> simp [cast_mul2 hp, gauss, sub_eq_add_neg]

theorem sqr2_eq_reduce (x : Gfp2) : sqr2 p x = reduce p (gauss x ^ 2) := by
  rw [sqr2, mul2_eq_reduce hp, sq]

end

/-- The half doubled is the operand again, in both components (R515). -/
theorem reduce_two_mul_div2 {p : Nat} {x : Gfp2} (hp : p % 2 = 1) (hx : Below p x) :
    reduce p (2 * gauss (div2 p x)) = x := by
  have double : ∀ n < p, (n : ZMod p) = 2 * (div2p p n : ZMod p) := fun n hn => by
    have h := congrArg (Nat.cast : Nat → ZMod p) (two_mul_div2p_mod hp hn)
    simpa using h.symm
  symm
  apply eq_reduce_of_cast (Nat.zero_lt_of_lt hx.1) hx
  · simpa [gauss, div2] using double _ hx.1
  · simpa [gauss, div2] using double _ hx.2

/-- FP2TEST's EQ is equality of the two values (R560). -/
theorem ofTest2_eq (old : Flags) (x y : Gfp2) : old.ofTest2 x y = ⟨decide (x = y), false, false, old.zinv⟩ := by
  obtain ⟨x0, x1⟩ := x
  obtain ⟨y0, y1⟩ := y
  simp [Flags.ofTest2, Bool.beq_eq_decide_eq]

section
variable {rs : List FReg} {s : State}

/-- A command that checks the selector beside CFG_OK and the sources `rs` completes once they are legal and canonical. -/
theorem command_of_selector (effect : State) (hc : s.cfgOk = true) (hs : SelLegal s) (hr : Canonical s rs) :
    command { usesSel := true, sources := rs } effect s = .next (completed effect) :=
  command_completed effect rfl hc rfl rfl (fun _ => hs) rfl hr rfl

/-- The three errors of such a command. -/
theorem errors_of_selector {i : Instr} {effect : State}
    (h : exec i s = command { usesSel := true, sources := rs } effect s) :
    NeedsConfig i s ∧ Raises i (¬SelLegal s) .eSel s ∧ NeedsCanonical i rs (SelLegal s) s :=
  ⟨fun hc => h.trans (command_nocfg effect rfl rfl hc),
    fun hc hs => h.trans (command_sel effect rfl hc rfl nofun rfl hs),
    fun hc hs hr => h.trans (command_noncanon effect rfl hc rfl nofun (fun _ => hs) nofun hr)⟩

theorem selBit_of_zero (h : s.sel = 0#32) : s.selBit = false := by simp [State.selBit, h]
theorem selBit_of_one (h : s.sel = 1#32) : s.selBit = true := by simp [State.selBit, h]

/-- A canonical register lies below a positive modulus. -/
theorem mod_pos_of_canonical {a : EReg} (h : Canonical s (EReg.comps a)) : 0 < s.mod := Nat.zero_lt_of_lt (E_below h).1

end

end Sys2Proof.Machine

namespace Sys2Proof.Proofs
open Sys2Proof.Machine Sys2Proof.Claims Sys2Proof.Safety

/-- Settles O32: the product, the square and the half are those of Machine/Field.lean on canonical components. -/
theorem fp2mulFp2sqrFp2div2WriteTheirResult : Obligations.Fp2mulFp2sqrFp2div2WriteTheirResult := by
  intro d a b s
  obtain ⟨hmulCfg, hmulCanon⟩ := errors_of_sources (i := .fp2mul d a b) (s := s) rfl
  refine ⟨fun hc hr => ?_, fun hc hr => ⟨?_, fun hodd => ?_⟩, hmulCfg, hmulCanon, fun i hi => ?_⟩
  · rw [← mul2_eq_reduce (mod_pos_of_canonical (List.forall_mem_append.mp hr).1)]
    exact command_of_canonical _ hc hr
  · rw [← sqr2_eq_reduce (mod_pos_of_canonical hr)]
    exact command_of_canonical _ hc hr
  · exact ⟨div2 s.mod (s.E a), command_of_canonical _ hc hr, div2_below (E_below hr),
      reduce_two_mul_div2 hodd (E_below hr)⟩
  · obtain rfl | rfl := List.mem_pair.mp hi <;> exact errors_of_sources rfl

/-- Settles O31: the operations of R33 are the sum, the difference and the negative in exact arithmetic. -/
theorem fp2addFp2subFp2negFp2movWriteTheirResult : Obligations.Fp2addFp2subFp2negFp2movWriteTheirResult := by
  intro d a b s
  refine ⟨fun hc hr => ?_, fun hc hr => ?_, fun i hi => ?_, fun i hi => ?_⟩
  · have hp : 0 < s.mod := mod_pos_of_canonical (List.forall_mem_append.mp hr).1
    rw [← add2_eq_reduce hp, ← sub2_eq_reduce hp]
    exact ⟨command_of_canonical _ hc hr, command_of_canonical _ hc hr⟩
  · rw [← neg2_eq_reduce (mod_pos_of_canonical hr)]
    exact ⟨command_of_canonical _ hc hr, command_of_canonical _ hc hr⟩
  · obtain rfl | rfl := List.mem_pair.mp hi <;> exact errors_of_sources rfl
  · obtain rfl | rfl := List.mem_pair.mp hi <;> exact errors_of_sources rfl

/-- Settles O33: SEL = 0 writes back what the registers hold, SEL = 1 the other operand, in both components. -/
theorem fp2cswapFp2cselFollowTheSelector : Obligations.Fp2cswapFp2cselFollowTheSelector := by
  intro d a b s
  refine ⟨fun hc hr => ?_, fun i hi => ?_⟩
  · have swap : SelLegal s → exec (.fp2cswap a b) s = .next (completed
        ((s.setE a (swapIf s.selBit (s.E a) (s.E b)).1).setE b (swapIf s.selBit (s.E a) (s.E b)).2)) :=
      fun hs => command_of_selector _ hc hs hr
    have select : SelLegal s → exec (.fp2csel d a b) s = .next (completed
        (s.setE d (selectIf s.selBit (s.E a) (s.E b)))) := fun hs => command_of_selector _ hc hs hr
    refine ⟨fun h => ?_, fun h => ?_⟩
    · rw [swap (.inl h), select (.inl h), selBit_of_zero h]
      simp [swapIf, selectIf]
    · rw [swap (.inr h), select (.inr h), selBit_of_one h]
      simp [swapIf, selectIf]
  · obtain rfl | rfl := List.mem_pair.mp hi <;> exact errors_of_selector rfl

/-- Settles O34: the flags of Flags.ofTest2, beside the frame's two errors. -/
theorem fp2testComparesComponents : Obligations.Fp2testComparesComponents := by
  intro a b s
  refine ⟨fun hc hr => ?_, errors_of_sources rfl⟩
  rw [← ofTest2_eq]
  exact command_of_canonical _ hc hr

end Sys2Proof.Proofs
end

section
/-! The residue ring Z[i]/(p), in which every operation of GF(p^2) is the ring operation (00_scope.md R33); the batch inverses,
the j-invariant and the recovered coefficient (R630, R631, R730, R740) are read off there by ring arithmetic. -/

namespace Sys2Proof.Machine
open Sys2Proof.Claims Sys2Proof.Safety

/-- The class of a Gaussian integer modulo p. -/
def residue (p : Nat) : GaussianInt →+* GaussianInt ⧸ Ideal.span {(p : GaussianInt)} := Ideal.Quotient.mk _

/-- Two Gaussian integers have one class exactly when their components agree modulo p. -/
theorem residue_eq_iff (p : Nat) (g h : GaussianInt) :
    residue p g = residue p h ↔ (g.re : ZMod p) = h.re ∧ (g.im : ZMod p) = h.im := by
  have component : ∀ a b : Int, (a : ZMod p) = b ↔ (p : Int) ∣ a - b := fun a b => by
    rw [← ZMod.intCast_zmod_eq_zero_iff_dvd, Int.cast_sub, sub_eq_zero]
  rw [component, component, residue, Ideal.Quotient.eq, Ideal.mem_span_singleton, ← Int.cast_natCast, Zsqrtd.intCast_dvd,
    Zsqrtd.re_sub, Zsqrtd.im_sub]

/-- Canonical values of one class are equal. -/
theorem eq_of_residue_eq {p : Nat} {x y : Gfp2} (hx : Below p x) (hy : Below p y)
    (h : residue p (gauss x) = residue p (gauss y)) : x = y := by
  obtain ⟨h0, h1⟩ := (residue_eq_iff p _ _).mp h
  exact eq_of_cast_eq hx hy (by simpa [gauss] using h0) (by simpa [gauss] using h1)

theorem residue_k2 (p c : Nat) : residue p (gauss (k2 p c)) = (c : GaussianInt ⧸ Ideal.span {(p : GaussianInt)}) := by
  rw [← map_natCast (residue p), residue_eq_iff]
  simp [cast_k2, gauss]

theorem invp_eq (p a : Nat) : invp p a = a ^ (p - 2) % p := powMod_eq p a (p - 2)

theorem norm2_eq_normOf (p : Nat) (x : Gfp2) : norm2 p x = normOf p x := by
  simp [norm2, normOf, addp, mulp, sq]

section
variable {p : Nat} (hp : 0 < p)
include hp

theorem residue_gauss_reduce (g : GaussianInt) : residue p (gauss (reduce p g)) = residue p g := by
  rw [residue_eq_iff]
  simp only [gauss, reduce, Int.cast_natCast, cast_toNat_emod hp, and_self]

/-- A canonical value is the reduction of every Gaussian integer of its class. -/
theorem eq_reduce_of_residue {x : Gfp2} {g : GaussianInt} (hx : Below p x) (h : residue p (gauss x) = residue p g) :
    x = reduce p g :=
  eq_of_residue_eq hx (reduce_below hp g) (h.trans (residue_gauss_reduce hp g).symm)

/-! Each operation of GF(p^2) in the residue ring (R33). -/

theorem residue_add2 (x y : Gfp2) :
    residue p (gauss (add2 p x y)) = residue p (gauss x) + residue p (gauss y) := by
  rw [add2_eq_reduce hp, residue_gauss_reduce hp, map_add]

theorem residue_sub2 (x y : Gfp2) :
    residue p (gauss (sub2 p x y)) = residue p (gauss x) - residue p (gauss y) := by
  rw [sub2_eq_reduce hp, residue_gauss_reduce hp, map_sub]

theorem residue_mul2 (x y : Gfp2) :
    residue p (gauss (mul2 p x y)) = residue p (gauss x) * residue p (gauss y) := by
  rw [mul2_eq_reduce hp, residue_gauss_reduce hp, map_mul]

theorem residue_sqr2 (x : Gfp2) : residue p (gauss (sqr2 p x)) = residue p (gauss x) ^ 2 := by
  rw [sqr2_eq_reduce hp, residue_gauss_reduce hp, map_pow]

/-! The inverses (R600, R610). -/

theorem cast_inv2 (x : Gfp2) :
    ((inv2 p x).c0 : ZMod p) = x.c0 * (norm2 p x : ZMod p) ^ (p - 2) ∧
    ((inv2 p x).c1 : ZMod p) = -x.c1 * (norm2 p x : ZMod p) ^ (p - 2) := by
  simp [inv2, invp_eq, cast_negp hp]

/-- The conjugate over the norm, in exact Gaussian arithmetic. -/
theorem inv2_eq_inverseOf (x : Gfp2) : inv2 p x = inverseOf p x := by
  obtain ⟨h0, h1⟩ := cast_inv2 hp x
  rw [← Nat.cast_pow] at h0 h1
  rw [inverseOf, ← norm2_eq_normOf, ← Nat.cast_pow]
  generalize norm2 p x ^ (p - 2) = n at h0 h1 ⊢
  apply eq_reduce_of_cast hp (inv2_below hp x)
  · simp [h0, conj]
  · simp [h1, conj]

/-! The batch inverses (R630, R631). -/

theorem inv3Product_eq_reduce (z0 z1 z2 : Gfp2) : inv3Product p z0 z1 z2 = reduce p (gauss z0 * gauss z1 * gauss z2) :=
  eq_reduce_of_residue hp (mul2_below hp _ _) (by simp only [inv3Product, residue_mul2 hp, map_mul])

theorem inv4Product_eq_reduce (z0 z1 z2 z3 : Gfp2) :
    inv4Product p z0 z1 z2 z3 = reduce p (gauss z0 * gauss z1 * gauss z2 * gauss z3) :=
  eq_reduce_of_residue hp (mul2_below hp _ _) (by simp only [inv4Product, residue_mul2 hp, map_mul])

/-- Each output of INV3 is the inverse of the product times the other two inputs. -/
theorem inv3Formula_eq_reduce {z0 z1 z2 m : Gfp2} (hm : inv3Product p z0 z1 z2 = m) :
    inv3Formula p z0 z1 z2 =
      (reduce p (gauss (inverseOf p m) * gauss z1 * gauss z2),
       reduce p (gauss (inverseOf p m) * gauss z0 * gauss z2),
       reduce p (gauss (inverseOf p m) * gauss z0 * gauss z1)) := by
  rw [inv3Formula, hm, inv2_eq_inverseOf hp]
  refine Prod.ext ?_ (Prod.ext ?_ ?_)
  all_goals
    apply eq_reduce_of_residue hp (mul2_below hp _ _)
    simp only [residue_mul2 hp, map_mul]
    ring

/-- Each output of INV4 is the inverse of the product times the other three inputs. -/
theorem inv4Formula_eq_reduce {z0 z1 z2 z3 m : Gfp2} (hm : inv4Product p z0 z1 z2 z3 = m) :
    inv4Formula p z0 z1 z2 z3 =
      (reduce p (gauss (inverseOf p m) * gauss z1 * gauss z2 * gauss z3),
       reduce p (gauss (inverseOf p m) * gauss z0 * gauss z2 * gauss z3),
       reduce p (gauss (inverseOf p m) * gauss z0 * gauss z1 * gauss z3),
       reduce p (gauss (inverseOf p m) * gauss z0 * gauss z1 * gauss z2)) := by
  rw [inv4Formula, hm, inv2_eq_inverseOf hp]
  refine Prod.ext ?_ (Prod.ext ?_ (Prod.ext ?_ ?_))
  all_goals
    apply eq_reduce_of_residue hp (mul2_below hp _ _)
    simp only [residue_mul2 hp, map_mul]
    ring

/-! The j-invariant and A-recovery (R730, R740). -/

theorem jinvDen_eq_reduce (a c : Gfp2) :
    jinvDen p a c = reduce p (gauss c ^ 4 * (gauss a ^ 2 - 4 * gauss c ^ 2)) := by
  unfold jinvDen
  apply eq_reduce_of_residue hp (mul2_below hp _ _)
  simp only [residue_mul2 hp, residue_sqr2 hp, residue_sub2 hp, residue_k2, map_mul, map_sub, map_pow, map_ofNat,
    Nat.cast_ofNat]
  ring

theorem jinv_eq_reduce (a c i : Gfp2) :
    mul2 p (jinvNum p a c) i = reduce p (256 * (gauss a ^ 2 - 3 * gauss c ^ 2) ^ 3 * gauss i) := by
  apply eq_reduce_of_residue hp (mul2_below hp _ _)
  simp only [jinvNum, residue_mul2 hp, residue_sqr2 hp, residue_sub2 hp, residue_k2, map_mul, map_sub, map_pow, map_ofNat,
    Nat.cast_ofNat]
  ring

theorem recovaDen_eq_reduce (xP xQ xR : Gfp2) :
    recovaDen p xP xQ xR = reduce p (4 * gauss xP * gauss xQ * gauss xR) := by
  unfold recovaDen
  apply eq_reduce_of_residue hp (mul2_below hp _ _)
  simp only [residue_mul2 hp, residue_k2, map_mul, map_ofNat, Nat.cast_ofNat]
  ring

theorem recovaFormula_eq_reduce (xP xQ xR : Gfp2) :
    recovaFormula p xP xQ xR =
      reduce p ((gauss xP * gauss xQ + gauss xP * gauss xR + gauss xQ * gauss xR - 1) ^ 2 *
        gauss (inverseOf p (recovaDen p xP xQ xR)) - (gauss xP + gauss xQ + gauss xR)) := by
  unfold recovaFormula
  apply eq_reduce_of_residue hp (sub2_below hp _ _)
  simp only [inv2_eq_inverseOf hp, residue_mul2 hp, residue_sqr2 hp, residue_sub2 hp, residue_add2 hp,
    residue_k2, map_mul, map_add, map_sub, map_pow, map_one, Nat.cast_one]
  ring

end

/-- ZINV after an inverse of `n`: set for a zero, and sticky (R601). -/
theorem noteInverse_eq (s : State) (n : Nat) :
    s.noteInverse n = { s with flags := { s.flags with zinv := s.flags.zinv || decide (n = 0) } } := by
  simp [State.noteInverse, State.setFlags, Flags.noteInverse, Bool.beq_eq_decide_eq]

/-- E[r+k] by its number, for a register that INV3 and INV4 reach without wrapping (R301). -/
theorem plus_eq {r e : EReg} {k : Nat} (h : e.val = r.val + k) : EReg.plus r k = e :=
  Fin.ext (by simp [EReg.plus, ← h, Nat.mod_eq_of_lt e.isLt])

/-- A command that checks the range of d beside CFG_OK and its sources completes with its effect when d is in range (R301). -/
theorem command_of_range {outside : Bool} {rs : List FReg} {s : State} (effect : State) (hd : outside = false)
    (hc : s.cfgOk = true) (hr : Canonical s rs) :
    command { illegal := outside, sources := rs } effect s = .next (completed effect) :=
  command_completed effect hd hc rfl rfl nofun rfl hr rfl

end Sys2Proof.Machine

namespace Sys2Proof.Proofs
open Sys2Proof.Machine Sys2Proof.Claims Sys2Proof.Safety

/-- Settles O35: invp and inv2 are the exact powers of R600 and R610, and the frame checks no more than the sources. -/
theorem fpinvFp2invWriteTheFermatInverse : Obligations.FpinvFp2invWriteTheFermatInverse := by
  intro d a e x s
  obtain ⟨hfCfg, hfCanon⟩ := errors_of_sources (i := .fpinv d a) (s := s) rfl
  obtain ⟨heCfg, heCanon⟩ := errors_of_sources (i := .fp2inv e x) (s := s) rfl
  refine ⟨fun hc ha => ?_, fun hc hx => ?_, hfCfg, hfCanon, heCfg, heCanon⟩
  · have hr : Canonical s [a] := by simp [Canonical, ha]
    refine (command_of_canonical _ hc hr).trans ?_
    rw [noteInverse_eq, invp_eq]
    rfl
  · refine (command_of_canonical _ hc hx).trans ?_
    rw [noteInverse_eq, inv2_eq_inverseOf (mod_pos_of_canonical hx), norm2_eq_normOf]
    rfl

/-- Settles O36: the running products of R630 and R631 are those of the inverse and the other inputs. -/
theorem inv3Inv4WriteTheBatchInverse : Obligations.Inv3Inv4WriteTheBatchInverse := by
  refine ⟨fun d d1 d2 s h1 h2 hc hr => ?_, fun d d1 d2 d3 s h1 h2 h3 hc hr => ?_⟩
  · have hd : decide (29 < d.val) = false := by simp; omega
    have hp : 0 < s.mod := mod_pos_of_canonical (List.forall_mem_append.mp (List.forall_mem_append.mp hr).1).1
    intro z0 z1 z2 m i
    simp only [exec, execInv3, plus_eq h1, plus_eq h2]
    rw [command_of_range _ hd hc hr, noteInverse_eq, inv3Product_eq_reduce hp,
      inv3Formula_eq_reduce hp (inv3Product_eq_reduce hp _ _ _), norm2_eq_normOf]
    rfl
  · have hd : decide (28 < d.val) = false := by simp; omega
    have hp : 0 < s.mod := mod_pos_of_canonical
      (List.forall_mem_append.mp (List.forall_mem_append.mp (List.forall_mem_append.mp hr).1).1).1
    intro z0 z1 z2 z3 m i
    simp only [exec, execInv4, plus_eq h1, plus_eq h2, plus_eq h3]
    rw [command_of_range _ hd hc hr, noteInverse_eq, inv4Product_eq_reduce hp,
      inv4Formula_eq_reduce hp (inv4Product_eq_reduce hp _ _ _ _), norm2_eq_normOf]
    rfl

/-- Settles O43: the sequences of R730 and R740 multiplied out in the residue ring. -/
theorem jinvRecovaWriteTheirValue : Obligations.JinvRecovaWriteTheirValue := by
  refine ⟨fun d s hc hp => ?_, fun d a b c s hc hr => ?_, fun d a b c s => ⟨(errors_of_sources rfl).1, errors_of_sources rfl⟩⟩
  · intro A C den
    refine (command_of_canonical (rs := []) _ hc nofun).trans ?_
    rw [noteInverse_eq, jinv_eq_reduce hp, inv2_eq_inverseOf hp, jinvDen_eq_reduce hp, norm2_eq_normOf]
    rfl
  · have hp : 0 < s.mod := mod_pos_of_canonical (List.forall_mem_append.mp (List.forall_mem_append.mp hr).1).1
    intro xP xQ xR dn
    refine (command_of_canonical _ hc hr).trans ?_
    rw [noteInverse_eq, recovaFormula_eq_reduce hp, recovaDen_eq_reduce hp, norm2_eq_normOf]
    rfl

end Sys2Proof.Proofs
end

section
/-! Modulo a prime p = 3 mod 4 (42_inverse.md): the norm of a nonzero value is not 0, so that the Fermat inverse is an inverse
(R600, R610), and inverses are unique in the residue ring, so that the batch inverses are the single ones (R630, R631). -/

namespace Sys2Proof.Machine
open Sys2Proof.Claims Sys2Proof.Safety

theorem norm2_zero (p : Nat) : norm2 p ⟨0, 0⟩ = 0 := by simp [norm2, addp, mulp]

/-- The remainder 1 read off modulo p. -/
theorem mulp_eq_one_of_cast {p a b : Nat} (hp : 1 < p) (h : (a : ZMod p) * b = 1) : mulp p a b = 1 := by
  have hmod : a * b % p = 1 % p := (ZMod.natCast_eq_natCast_iff' _ _ p).mp (by simpa using h)
  rwa [Nat.mod_eq_of_lt hp] at hmod

/-- Fermat's little theorem: the power p - 2 inverts. -/
theorem mul_pow_sub_two {p : Nat} (hp : p.Prime) {a : ZMod p} (ha : a ≠ 0) : a * a ^ (p - 2) = 1 := by
  have : Fact p.Prime := ⟨hp⟩
  have hexp : p - 2 + 1 = p - 1 := by have := hp.two_le; omega
  rw [← pow_succ', hexp, ZMod.pow_card_sub_one_eq_one ha]

/-! The zero of GF(p^2): its inverse is 0 (R610), and a zero input makes every output of a batch inverse zero, because the
product's inverse is a factor of each. -/

section
variable {p : Nat} (hp : 0 < p)
include hp

theorem inv2_zero : inv2 p ⟨0, 0⟩ = ⟨0, 0⟩ :=
  eq_of_cast_eq (inv2_below hp _) (zero_below hp) (by simp [cast_inv2 hp]) (by simp [cast_inv2 hp])

theorem zero_mul2 (x : Gfp2) : mul2 p ⟨0, 0⟩ x = ⟨0, 0⟩ :=
  eq_of_cast_eq (mul2_below hp _ _) (zero_below hp) (by simp [cast_mul2 hp]) (by simp [cast_mul2 hp])

theorem mul2_zero (x : Gfp2) : mul2 p x ⟨0, 0⟩ = ⟨0, 0⟩ :=
  eq_of_cast_eq (mul2_below hp _ _) (zero_below hp) (by simp [cast_mul2 hp]) (by simp [cast_mul2 hp])

variable {z0 z1 z2 z3 : Gfp2}

theorem inv3Product_of_zero_mem (h : ⟨0, 0⟩ ∈ [z0, z1, z2]) : inv3Product p z0 z1 z2 = ⟨0, 0⟩ := by
  simp only [List.mem_cons, List.not_mem_nil, or_false] at h
  obtain rfl | rfl | rfl := h <;> simp only [inv3Product, zero_mul2 hp, mul2_zero hp]

theorem inv4Product_of_zero_mem (h : ⟨0, 0⟩ ∈ [z0, z1, z2, z3]) : inv4Product p z0 z1 z2 z3 = ⟨0, 0⟩ := by
  simp only [List.mem_cons, List.not_mem_nil, or_false] at h
  obtain rfl | rfl | rfl | rfl := h <;> simp only [inv4Product, zero_mul2 hp, mul2_zero hp]

theorem inv3Formula_of_product_zero (h : inv3Product p z0 z1 z2 = ⟨0, 0⟩) :
    inv3Formula p z0 z1 z2 = (⟨0, 0⟩, ⟨0, 0⟩, ⟨0, 0⟩) := by
  simp only [inv3Formula, h, inv2_zero hp, zero_mul2 hp]

theorem inv4Formula_of_product_zero (h : inv4Product p z0 z1 z2 z3 = ⟨0, 0⟩) :
    inv4Formula p z0 z1 z2 z3 = (⟨0, 0⟩, ⟨0, 0⟩, ⟨0, 0⟩, ⟨0, 0⟩) := by
  simp only [inv4Formula, h, inv2_zero hp, zero_mul2 hp]

end

section
variable {p : Nat} (hp : p.Prime) (hmod : p % 4 = 3)
include hp hmod

/-- The norm of a nonzero value is not 0, because -1 is no square modulo p. -/
theorem cast_norm2_ne_zero {x : Gfp2} (hx : Below p x) (h0 : x ≠ ⟨0, 0⟩) : (norm2 p x : ZMod p) ≠ 0 := by
  have : Fact p.Prime := ⟨hp⟩
  intro hn
  have hsum : (x.c0 : ZMod p) ^ 2 = -(x.c1 : ZMod p) ^ 2 := by
    rw [eq_neg_iff_add_eq_zero]
    simpa [norm2, sq] using hn
  have hc1 : (x.c1 : ZMod p) = 0 := by
    by_contra h
    exact ZMod.mod_four_ne_three_of_sq_eq_neg_sq' h hsum hmod
  have hc0 : (x.c0 : ZMod p) = 0 := by simpa [hc1] using hsum
  exact h0 (eq_of_cast_eq hx (zero_below hp.pos) (by simpa using hc0) (by simpa using hc1))

theorem mul2_inv2 {x : Gfp2} (hx : Below p x) (h0 : x ≠ ⟨0, 0⟩) : mul2 p x (inv2 p x) = ⟨1, 0⟩ := by
  have hone : (norm2 p x : ZMod p) * (norm2 p x : ZMod p) ^ (p - 2) = 1 :=
    mul_pow_sub_two hp (cast_norm2_ne_zero hp hmod hx h0)
  have hnorm : (norm2 p x : ZMod p) = x.c0 * x.c0 + x.c1 * x.c1 := by simp [norm2]
  apply eq_of_cast_eq (mul2_below hp.pos _ _) ⟨hp.one_lt, hp.pos⟩
  · rw [(cast_mul2 hp.pos _ _).1, (cast_inv2 hp.pos x).1, (cast_inv2 hp.pos x).2, Nat.cast_one, ← hone, hnorm]
    ring
  · rw [(cast_mul2 hp.pos _ _).2, (cast_inv2 hp.pos x).1, (cast_inv2 hp.pos x).2, Nat.cast_zero]
    ring

/-- A nonzero value times its inverse is 1 in the residue ring. -/
theorem residue_mul_inv2 {x : Gfp2} (hx : Below p x) (h0 : x ≠ ⟨0, 0⟩) :
    residue p (gauss x) * residue p (gauss (inv2 p x)) = 1 := by
  rw [← residue_mul2 hp.pos, mul2_inv2 hp hmod hx h0, ← map_one (residue p)]
  rfl

/-- Inverses are unique: a canonical value whose product with the nonzero `x` is 1 is `inv2 p x`. -/
theorem eq_inv2_of_mul_eq_one {x y : Gfp2} (hx : Below p x) (h0 : x ≠ ⟨0, 0⟩) (hy : Below p y)
    (h : residue p (gauss y) * residue p (gauss x) = 1) : y = inv2 p x :=
  eq_of_residue_eq hy (inv2_below hp.pos x) (left_inv_eq_right_inv h (residue_mul_inv2 hp hmod hx h0))

/-- There are no zero divisors. -/
theorem mul2_ne_zero {x y : Gfp2} (hx : Below p x) (hy : Below p y) (hx0 : x ≠ ⟨0, 0⟩) (hy0 : y ≠ ⟨0, 0⟩) :
    mul2 p x y ≠ ⟨0, 0⟩ := by
  intro h
  have hzero : residue p (gauss x) * residue p (gauss y) = 0 := by
    rw [← residue_mul2 hp.pos, h, ← map_zero (residue p)]
    rfl
  have hy1 : residue p (gauss y) = residue p 0 := by
    calc residue p (gauss y)
        = residue p (gauss x) * residue p (gauss (inv2 p x)) * residue p (gauss y) := by
          rw [residue_mul_inv2 hp hmod hx hx0, one_mul]
      _ = residue p (gauss (inv2 p x)) * (residue p (gauss x) * residue p (gauss y)) := by ring
      _ = residue p 0 := by rw [hzero, mul_zero, map_zero]
  exact hy0 (eq_of_residue_eq hy (zero_below hp.pos) hy1)

/-- A product that is a nonzero value times its own inverse is 1 as well. -/
theorem eq_inv2_of_mul_eq_mul_inv2 {x y m : Gfp2} (hx : Below p x) (h0 : x ≠ ⟨0, 0⟩) (hm : Below p m) (hm0 : m ≠ ⟨0, 0⟩)
    (hy : Below p y)
    (h : residue p (gauss y) * residue p (gauss x) = residue p (gauss m) * residue p (gauss (inv2 p m))) : y = inv2 p x :=
  eq_inv2_of_mul_eq_one hp hmod hx h0 hy (h.trans (residue_mul_inv2 hp hmod hm hm0))

/-! The batch inverses: each output times its input is the product of the inputs times the product's inverse. -/

theorem inv3Formula_eq_inv2 {z0 z1 z2 : Gfp2} (h0 : Below p z0) (h1 : Below p z1) (h2 : Below p z2)
    (n0 : z0 ≠ ⟨0, 0⟩) (n1 : z1 ≠ ⟨0, 0⟩) (n2 : z2 ≠ ⟨0, 0⟩) :
    inv3Formula p z0 z1 z2 = (inv2 p z0, inv2 p z1, inv2 p z2) := by
  have below (x y : Gfp2) : Below p (mul2 p x y) := mul2_below hp.pos x y
  have hm0 : inv3Product p z0 z1 z2 ≠ ⟨0, 0⟩ := mul2_ne_zero hp hmod (below _ _) h2 (mul2_ne_zero hp hmod h0 h1 n0 n1) n2
  have output {z o : Gfp2} := eq_inv2_of_mul_eq_mul_inv2 hp hmod (x := z) (y := o) (hm := below _ z2) (hm0 := hm0)
  rw [inv3Formula]
  refine Prod.ext (output h0 n0 (below _ _) ?_) (Prod.ext (output h1 n1 (below _ _) ?_) (output h2 n2 (below _ _) ?_))
  all_goals
    simp only [inv3Product, residue_mul2 hp.pos]
    ring

theorem inv4Formula_eq_inv2 {z0 z1 z2 z3 : Gfp2} (h0 : Below p z0) (h1 : Below p z1) (h2 : Below p z2) (h3 : Below p z3)
    (n0 : z0 ≠ ⟨0, 0⟩) (n1 : z1 ≠ ⟨0, 0⟩) (n2 : z2 ≠ ⟨0, 0⟩) (n3 : z3 ≠ ⟨0, 0⟩) :
    inv4Formula p z0 z1 z2 z3 = (inv2 p z0, inv2 p z1, inv2 p z2, inv2 p z3) := by
  have below (x y : Gfp2) : Below p (mul2 p x y) := mul2_below hp.pos x y
  have hm0 : inv4Product p z0 z1 z2 z3 ≠ ⟨0, 0⟩ := mul2_ne_zero hp hmod (below _ _) h3
    (mul2_ne_zero hp hmod (below _ _) h2 (mul2_ne_zero hp hmod h0 h1 n0 n1) n2) n3
  have output {z o : Gfp2} := eq_inv2_of_mul_eq_mul_inv2 hp hmod (x := z) (y := o) (hm := below _ z3) (hm0 := hm0)
  rw [inv4Formula]
  refine Prod.ext (output h0 n0 (below _ _) ?_) (Prod.ext (output h1 n1 (below _ _) ?_)
    (Prod.ext (output h2 n2 (below _ _) ?_) (output h3 n3 (below _ _) ?_)))
  all_goals
    simp only [inv4Product, residue_mul2 hp.pos]
    ring

end

end Sys2Proof.Machine

namespace Sys2Proof.Proofs
open Sys2Proof.Machine

/-- Settles O37: Fermat's little theorem for the norm, which is 0 for zero alone. -/
theorem inversesInvertModuloAPrime : Obligations.InversesInvertModuloAPrime := by
  intro p hp hmod
  refine ⟨fun a ha hlt => mulp_eq_one_of_cast hp.one_lt ?_, ?_, fun x hx h0 => ⟨mul2_inv2 hp hmod hx h0, fun hn => ?_⟩,
    inv2_zero hp.pos⟩
  · have ha0 : (a : ZMod p) ≠ 0 := fun h => Nat.not_dvd_of_pos_of_lt ha hlt ((ZMod.natCast_eq_zero_iff a p).mp h)
    simpa [invp_eq] using mul_pow_sub_two hp ha0
  · rw [invp_eq, zero_pow (by omega), Nat.zero_mod]
  · exact cast_norm2_ne_zero hp hmod hx h0 (by rw [hn, Nat.cast_zero])

/-- Settles O38: uniqueness of inverses for nonzero inputs, and a zero factor in every output otherwise. -/
theorem batchInverseEqualsTheSingleInverses : Obligations.BatchInverseEqualsTheSingleInverses := by
  intro p hp hmod z0 z1 z2 z3 h0 h1 h2 h3
  refine ⟨fun n0 n1 n2 => ⟨inv3Formula_eq_inv2 hp hmod h0 h1 h2 n0 n1 n2, fun n3 =>
    inv4Formula_eq_inv2 hp hmod h0 h1 h2 h3 n0 n1 n2 n3⟩, fun hmem => ?_, fun hmem => ?_⟩
  · have hm := inv3Product_of_zero_mem hp.pos hmem
    exact ⟨inv3Formula_of_product_zero hp.pos hm, by rw [hm, norm2_zero]⟩
  · have hm := inv4Product_of_zero_mem hp.pos hmem
    exact ⟨inv4Formula_of_product_zero hp.pos hm, by rw [hm, norm2_zero]⟩

end Sys2Proof.Proofs
end

section
/-! The curve commands of 43_curve.md: the point formulas of Machine/Formulas.lean multiplied out in the residue ring (R710,
R711, R712), and what the common frame answers when a command checks that its destinations differ (R1003). -/

namespace Sys2Proof.Machine
open Sys2Proof.Claims Sys2Proof.Safety

/-- Writing back what a point register holds changes nothing. -/
@[simp] theorem State.setP_self (s : State) (n : PReg) : s.setP n (s.P n) = s := by simp [State.setP, State.P]

section
variable {p : Nat} (hp : 0 < p)
include hp

/-- The five registers that CSET loads from (A, C), in exact Gaussian arithmetic (R700). -/
theorem curveOf_eq_reduce (a c : Gfp2) :
    curveOf p a c = ⟨a, c, reduce p (gauss a + 2 * gauss c), reduce p (gauss a - 2 * gauss c), reduce p (4 * gauss c)⟩ := by
  refine CurveRegs.mk.injEq .. |>.mpr ⟨rfl, rfl, eq_reduce_of_residue hp (add2_below hp _ _) ?_,
    eq_reduce_of_residue hp (sub2_below hp _ _) ?_, eq_reduce_of_residue hp (add2_below hp _ _) ?_⟩
  all_goals
    simp only [residue_add2 hp, residue_sub2 hp, map_add, map_sub, map_mul, map_ofNat]
    ring

/-- A canonical point is the reduction of every pair of Gaussian integers of its coordinates' classes. -/
theorem point_eq_reduce_of_residue {v : Point} {g h : GaussianInt} (hv : PointBelow p v)
    (hx : residue p (gauss v.x) = residue p g) (hz : residue p (gauss v.z) = residue p h) :
    v = ⟨reduce p g, reduce p h⟩ :=
  congrArg₂ Point.mk (eq_reduce_of_residue hp hv.1 hx) (eq_reduce_of_residue hp hv.2 hz)

/-- The sequence's last t1 is 4XZ (R710). -/
theorem xdblFormula_eq_double (a24p c24 : Gfp2) (v : Point) : xdblFormula p a24p c24 v = double p a24p c24 v := by
  refine point_eq_reduce_of_residue hp (xdblFormula_below hp _ _ _) ?_ ?_
  all_goals
    simp only [xdblFormula, residue_mul2 hp, residue_sqr2 hp, residue_sub2 hp, residue_add2 hp, map_mul, map_add, map_sub,
      map_pow, map_ofNat]
    ring

/-- The sum and the difference of the sequence's two products are 2(Xa·Xb - Za·Zb) and 2(Za·Xb - Xa·Zb) (R712). -/
theorem xaddFormula_eq_diffAdd (a b : Point) (xd : Gfp2) : xaddFormula p a b xd = diffAdd p a b xd := by
  refine point_eq_reduce_of_residue hp (xaddFormula_below hp _ _ _) ?_ ?_
  all_goals
    simp only [xaddFormula, residue_mul2 hp, residue_sqr2 hp, residue_sub2 hp, residue_add2 hp, map_mul, map_sub, map_pow,
      map_ofNat]
    ring

/-- The sequence ends with t4 = 2X, t0 = 2Z, and its two squares are of D + N and D - N (R711). -/
theorem xtplFormula_eq_triple (a24p a24m : Gfp2) (v : Point) : xtplFormula p a24p a24m v = triple p a24p a24m v := by
  refine point_eq_reduce_of_residue hp (xtplFormula_below hp _ _ _) ?_ ?_
  all_goals
    simp only [xtplFormula, residue_mul2 hp, residue_sqr2 hp, residue_sub2 hp, residue_add2 hp, map_mul, map_add, map_sub,
      map_pow, map_ofNat]
    ring

end

/-- E_ALIAS: the two destinations name one register, in a configured CORE (R1003). -/
theorem command_alias {c : Checks} {s : State} (effect : State) (hi : c.illegal = false) (hc : s.cfgOk = true)
    (ha : c.aliased = true) : command c effect s = .next (failed s .eAlias) := by
  have hv : c.verdict s = .eAlias := by simp [Checks.verdict, hi, hc, ha]
  rw [command_of_failed (by simp [hv]), hv, finish_error _ (by decide), failed]

section
variable {α : Type} [DecidableEq α] {d a : α} {rs : List FReg} {s : State}

/-- A command that checks its two destinations beside CFG_OK and the sources `rs` completes once the destinations differ and
the sources are canonical. -/
theorem command_of_distinct (effect : State) (hc : s.cfgOk = true) (hd : d ≠ a) (hr : Canonical s rs) :
    command { aliased := decide (d = a), sources := rs } effect s = .next (completed effect) :=
  command_completed effect rfl hc (decide_eq_false hd) rfl nofun rfl hr rfl

/-- The three errors of such a command. -/
theorem errors_of_destinations {i : Instr} {effect : State}
    (h : exec i s = command { aliased := decide (d = a), sources := rs } effect s) :
    NeedsConfig i s ∧ Raises i (d = a) .eAlias s ∧ NeedsCanonical i rs (d ≠ a) s :=
  ⟨fun hc => h.trans (command_nocfg effect rfl rfl hc),
    fun hc hd => h.trans (command_alias effect rfl hc (decide_eq_true hd)),
    fun hc hd hr => h.trans (command_noncanon effect rfl hc (decide_eq_false hd) nofun nofun nofun hr)⟩

end

/-- A canonical point register lies below a positive modulus. -/
theorem mod_pos_of_canonical_point {s : State} {a : PReg} (h : Canonical s (PReg.comps a)) : 0 < s.mod :=
  mod_pos_of_canonical (List.forall_mem_append.mp h).1

end Sys2Proof.Machine

namespace Sys2Proof.Proofs
open Sys2Proof.Machine Sys2Proof.Claims

/-- Settles O40: the sequences of R710 and R712 multiplied out; XDBLADD's two values are computed before its first write. -/
theorem xdblXaddXdbladdWriteTheirPoints : Obligations.XdblXaddXdbladdWriteTheirPoints := by
  refine ⟨fun d a s hc hr => ?_, fun d a b c s hc hr => ?_, fun d a b s hc hd hr => ?_, fun d a b c s => ?_⟩
  · rw [← xdblFormula_eq_double (mod_pos_of_canonical_point hr)]
    exact command_of_canonical _ hc hr
  · have ha : Canonical s (PReg.comps a) := (List.forall_mem_append.mp (List.forall_mem_append.mp hr).1).1
    rw [← xaddFormula_eq_diffAdd (mod_pos_of_canonical_point ha)]
    exact command_of_canonical _ hc hr
  · have hp : 0 < s.mod := mod_pos_of_canonical_point (List.forall_mem_append.mp (List.forall_mem_append.mp hr).1).1
    rw [← xdblFormula_eq_double hp, ← xaddFormula_eq_diffAdd hp]
    exact command_of_distinct _ hc hd hr
  · obtain ⟨hdblCfg, hdblCanon⟩ := errors_of_sources (i := .xdbl d a) (s := s) rfl
    obtain ⟨haddCfg, haddCanon⟩ := errors_of_sources (i := .xadd d a b c) (s := s) rfl
    exact ⟨hdblCfg, hdblCanon, haddCfg, haddCanon, errors_of_destinations rfl⟩

/-- Settles O41: the sequence of R711 multiplied out. -/
theorem xtplWritesTheTriple : Obligations.XtplWritesTheTriple := by
  intro d a s
  refine ⟨fun hc hr => ?_, errors_of_sources rfl⟩
  rw [← xtplFormula_eq_triple (mod_pos_of_canonical_point hr)]
  exact command_of_canonical _ hc hr

/-- Settles O39: CSET's registers in exact arithmetic; CGET checks no source, so any register value may be copied. -/
theorem csetCgetMoveTheCurve : Obligations.CsetCgetMoveTheCurve := by
  refine ⟨fun a b s hc hr => ?_, fun d a s hc hd => ?_, fun a b s => errors_of_sources rfl, fun d a s => ?_⟩
  · intro A C
    rw [← curveOf_eq_reduce (mod_pos_of_canonical (List.forall_mem_append.mp hr).1)]
    exact command_of_canonical _ hc hr
  · exact command_of_distinct (rs := []) _ hc hd nofun
  · obtain ⟨hcfg, halias, -⟩ := errors_of_destinations (i := .cget d a) (s := s) rfl
    exact ⟨hcfg, halias⟩

/-- Settles O42: SEL = 0 writes back what the point registers hold, SEL = 1 each other's point. -/
theorem pcswapFollowsTheSelector : Obligations.PcswapFollowsTheSelector := by
  intro a b s
  refine ⟨fun hc hr => ?_, errors_of_selector rfl⟩
  have swap : SelLegal s → exec (.pcswap a b) s = .next (completed
      ((s.setP a (swapIf s.selBit (s.P a) (s.P b)).1).setP b (swapIf s.selBit (s.P a) (s.P b)).2)) :=
    fun hs => command_of_selector _ hc hs hr
  constructor
  · intro h
    rw [swap (.inl h), selBit_of_zero h]
    simp [swapIf]
  · intro h
    rw [swap (.inr h), selBit_of_one h]
    simp [swapIf]

end Sys2Proof.Proofs
end

section
/-! The three-point ladder of 44_ladder.md: its loop as a fold over the scalar's bits (R801), from which the low bits alone
matter (R803); the branch-free iteration (R802); and the exact iteration modulo p. -/

namespace Sys2Proof.Machine
open Sys2Proof.Claims

/-- The bits n-1 down to 0 of m, the order in which R801 reads them. -/
def scalarBits (m n : Nat) : List Bool := (List.range n).reverse.map m.testBit

theorem scalarBits_succ (m n : Nat) : scalarBits m (n + 1) = m.testBit n :: scalarBits m n := by
  simp [scalarBits, List.range_succ]

/-- The bits below n are those of the remainder modulo 2^n. -/
theorem scalarBits_mod_two_pow (m n : Nat) : scalarBits (m % 2 ^ n) n = scalarBits m n := by
  refine List.map_congr_left fun i hi => ?_
  have hlt : i < n := by simpa using hi
  simp [Nat.testBit_mod_two_pow, hlt]

section
variable (p : Nat) (c : LadderInput)

/-- The loop of R801 is the fold of its iteration over the bits. -/
theorem ladderLoop_eq_foldl (m n : Nat) (r : LadderRegs) :
    ladderLoop p c m n r = (scalarBits m n).foldl (fun r bit => ladderStep p c bit r) r := by
  induction n generalizing r with
  | zero => rfl
  | succ n ih => rw [ladderLoop, ih, scalarBits_succ, List.foldl_cons]

theorem ladderLoop_mod_two_pow (m n : Nat) (r : LadderRegs) :
    ladderLoop p c (m % 2 ^ n) n r = ladderLoop p c m n r := by
  rw [ladderLoop_eq_foldl, scalarBits_mod_two_pow, ← ladderLoop_eq_foldl]

end

/-- The three points as the triple that the exact iteration works on. -/
def LadderRegs.points (r : LadderRegs) : Point × Point × Point := (r.r0, r.r1, r.r2)

/-- The constant c of R33 is the reduction of the integer c. -/
theorem k2_eq_reduce (p c : Nat) : k2 p c = reduce p c := by
  simp [k2, kp, reduce, Int.toNat_emod]

/-- The start of R801 in exact arithmetic. -/
theorem ladderStart_points (p : Nat) (c : LadderInput) :
    (ladderStart p c).points = (⟨reduce p 1, reduce p 0⟩, ⟨c.xQ, reduce p 1⟩, ⟨c.xP, reduce p 1⟩) := by
  simp [ladderStart, LadderRegs.points, k2_eq_reduce]

section
variable {p : Nat} (hp : 0 < p)
include hp

/-- Differential addition is symmetric in its two points. -/
theorem xaddFormula_comm (a b : Point) (xd : Gfp2) : xaddFormula p a b xd = xaddFormula p b a xd := by
  rw [xaddFormula_eq_diffAdd hp, xaddFormula_eq_diffAdd hp]
  simp only [diffAdd]
  congr 2 <;> ring

/-- A swap before and after the XDBLADD only exchanges the two points of its addition (R802). -/
theorem swapIteration_eq_ladderStep (c : LadderInput) (bit : Bool) (r : LadderRegs) :
    swapIteration p c bit r = ladderStep p c bit r := by
  cases bit with
  | false => rfl
  | true => simp [swapIteration, ladderStep, swapIf, selectIf, xaddFormula_comm hp r.r1 r.r0]

theorem swapLoop_eq_ladderLoop (c : LadderInput) (m n : Nat) (r : LadderRegs) :
    swapLoop p c m n r = ladderLoop p c m n r := by
  induction n generalizing r with
  | zero => rfl
  | succ n ih => rw [swapLoop, ladderLoop, swapIteration_eq_ladderStep hp, ih]

/-- One iteration of R801 in exact arithmetic. -/
theorem ladderStep_points (c : LadderInput) (r : LadderRegs) (bit : Bool) :
    ladderIteration p c.ca24p c.cc24 c.xP c.xQ c.xPQ r.points bit = (ladderStep p c bit r).points := by
  cases bit <;>
    simp [ladderStep, ladderIteration, LadderRegs.points, xdblFormula_eq_double hp, xaddFormula_eq_diffAdd hp]

/-- The ladder in exact arithmetic: `points` is a homomorphism between the two folds. -/
theorem ladder3_eq_ladderResult (c : LadderInput) (m n : Nat) :
    ladder3 p c m n = ladderResult p c.ca24p c.cc24 c.xP c.xQ c.xPQ m n := by
  have hfold := List.foldl_hom LadderRegs.points (ladderStep_points hp c) (l := scalarBits m n) (init := ladderStart p c)
  rw [ladderStart_points, ← ladderLoop_eq_foldl] at hfold
  exact (congrArg (·.2.2) hfold).symm

end

section
variable {rs : List FReg} {s : State}

/-- A command that checks NBITS beside CFG_OK and the sources `rs` completes once the count fits and they are canonical. -/
theorem command_of_count (effect : State) (hc : s.cfgOk = true) (hn : s.nbits.toNat ≤ s.slot.width)
    (hr : Canonical s rs) : command { usesNbits := true, sources := rs } effect s = .next (completed effect) := by
  have hv : Checks.verdict { usesNbits := true, sources := rs } s = .eNone :=
    (verdict_eNone_iff _ s).mpr ⟨rfl, fun _ => hc, rfl, fun _ => hn, nofun, nofun, hr, rfl⟩
  rw [command_of_passed hv, finish_eNone, completed]

/-- E_PARAM: a count above W, in a configured CORE (R800). -/
theorem command_param {c : Checks} (effect : State) (hi : c.illegal = false) (hc : s.cfgOk = true)
    (ha : c.aliased = false) (hu : c.usesNbits = true) (hn : s.slot.width < s.nbits.toNat) :
    command c effect s = .next (failed s .eParam) := by
  have hv : c.verdict s = .eParam := by simp [Checks.verdict, hi, hc, ha, hu, hn]
  rw [command_of_failed (by simp [hv]), hv, finish_error _ (by decide), failed]

/-- The three errors of a command that checks NBITS. -/
theorem errors_of_count {i : Instr} {effect : State}
    (h : exec i s = command { usesNbits := true, sources := rs } effect s) :
    NeedsConfig i s ∧ Raises i (s.slot.width < s.nbits.toNat) .eParam s ∧
      NeedsCanonical i rs (s.nbits.toNat ≤ s.slot.width) s :=
  ⟨fun hc => h.trans (command_nocfg effect rfl rfl hc),
    fun hc hn => h.trans (command_param effect rfl hc rfl rfl hn),
    fun hc hn hr => h.trans (command_noncanon effect rfl hc rfl (fun _ => hn) nofun nofun hr)⟩

end

end Sys2Proof.Machine

namespace Sys2Proof.Proofs
open Sys2Proof.Machine Sys2Proof.Claims

/-- Settles O44: the iterations of R801 in exact arithmetic; the frame checks the count before the sources. -/
theorem ladderWritesTheThreePointLadder : Obligations.LadderWritesTheThreePointLadder := by
  intro d a b c s
  refine ⟨fun hc hn hr => ?_, errors_of_count rfl⟩
  have hp : 0 < s.mod := mod_pos_of_canonical (List.forall_mem_append.mp (List.forall_mem_append.mp hr).1).1
  rw [← ladder3_eq_ladderResult hp ⟨s.curve.ca24p, s.curve.cc24, s.E a, s.E b, s.E c⟩]
  exact command_of_count _ hc hn hr

/-- Settles O45: each iteration of the two schedules gives the same registers, as XADD is symmetric. -/
theorem ladderSchedulesAgree : Obligations.LadderSchedulesAgree := fun _ hp => swapLoop_eq_ladderLoop hp

/-- Settles O46: the loop reads the bits below its count alone, and without an iteration leaves R2 at its start (xP : 1). -/
theorem ladderUsesTheLowScalarBits : Obligations.LadderUsesTheLowScalarBits := by
  refine ⟨fun p c m n => ?_, fun p c m hp => ?_⟩
  · rw [ladder3, ladder3, ladderLoop_mod_two_pow]
  · simp [ladder3, ladderLoop, ladderStart, k2, kp, Nat.mod_eq_of_lt hp]

end Sys2Proof.Proofs
end

section
/-! The isogeny commands of 45_isogeny.md: the codomains, coefficients and images of Machine/Formulas.lean multiplied out in
the residue ring (R900 to R920), what the common frame answers when a command checks ISO.TAG, and the kernel law (R925). -/

namespace Sys2Proof.Machine
open Sys2Proof.Claims Sys2Proof.Safety

section
variable {p : Nat} (hp : 0 < p)
include hp

theorem residue_neg2 (x : Gfp2) : residue p (gauss (neg2 p x)) = -residue p (gauss x) := by
  rw [neg2_eq_reduce hp, residue_gauss_reduce hp, map_neg]

/-- Canonical curve registers are the reductions of Gaussian integers of their classes. -/
theorem curve_eq_reduce_of_residue {c : CurveRegs} {a cc a24p a24m c24 : GaussianInt} (hc : CurveBelow p c)
    (ha : residue p (gauss c.ca) = residue p a) (hcc : residue p (gauss c.cc) = residue p cc)
    (hap : residue p (gauss c.ca24p) = residue p a24p) (ham : residue p (gauss c.ca24m) = residue p a24m)
    (hc24 : residue p (gauss c.cc24) = residue p c24) :
    c = ⟨reduce p a, reduce p cc, reduce p a24p, reduce p a24m, reduce p c24⟩ := by
  obtain ⟨ba, bcc, bap, bam, bc24⟩ := hc
  exact CurveRegs.mk.injEq .. |>.mpr ⟨eq_reduce_of_residue hp ba ha, eq_reduce_of_residue hp bcc hcc,
    eq_reduce_of_residue hp bap hap, eq_reduce_of_residue hp bam ham, eq_reduce_of_residue hp bc24 hc24⟩

/-! The 3-isogeny (R900, R905). -/

/-- The sequence's t2·t4 is (3X-Z)^3 (X+Z), and its t3·t4 is (3X+Z)^3 (X-Z). -/
theorem get3Curve_eq_reduce (k : Point) :
    get3Curve p k =
      let X := gauss k.x
      let Z := gauss k.z
      let P := (3 * X + Z) ^ 3 * (X - Z)
      let M := (3 * X - Z) ^ 3 * (X + Z)
      ⟨reduce p (2 * (P + M)), reduce p (P - M), reduce p P, reduce p M, reduce p (P - M)⟩ := by
  refine curve_eq_reduce_of_residue hp (get3Curve_below hp k) ?_ ?_ ?_ ?_ ?_
  all_goals
    simp only [get3Curve, residue_mul2 hp, residue_sqr2 hp, residue_sub2 hp, residue_add2 hp, map_mul, map_add, map_sub,
      map_pow, map_ofNat]
    ring

theorem get3Coef_eq_reduce (k : Point) :
    get3Coef p k = ⟨reduce p (gauss k.x - gauss k.z), reduce p (gauss k.x + gauss k.z), ⟨0, 0⟩, ⟨0, 0⟩, ⟨0, 0⟩⟩ := by
  rw [get3Coef, sub2_eq_reduce hp, add2_eq_reduce hp]
  rfl

theorem eval3Formula_eq_reduce (co : CoefRegs) (v : Point) :
    eval3Formula p co v =
      let X := gauss v.x
      let Z := gauss v.z
      let t0 := (X + Z) * gauss co.k0
      let t1 := (X - Z) * gauss co.k1
      ⟨reduce p (X * (t0 + t1) ^ 2), reduce p (Z * (t1 - t0) ^ 2)⟩ := by
  refine point_eq_reduce_of_residue hp (eval3Formula_below hp co v) ?_ ?_
  all_goals
    simp only [eval3Formula, residue_mul2 hp, residue_sqr2 hp, residue_sub2 hp, residue_add2 hp, map_mul, map_add, map_sub,
      map_pow]

/-! The interior 4-isogeny (R910, R915). -/

theorem get4Curve_eq_reduce (k : Point) :
    get4Curve p k =
      let X := gauss k.x
      let Z := gauss k.z
      ⟨reduce p (16 * X ^ 4 - 8 * Z ^ 4), reduce p (4 * Z ^ 4), reduce p (4 * X ^ 4),
        reduce p (4 * X ^ 4 - 4 * Z ^ 4), reduce p (4 * Z ^ 4)⟩ := by
  refine curve_eq_reduce_of_residue hp (get4Curve_below hp k) ?_ ?_ ?_ ?_ ?_
  all_goals
    simp only [get4Curve, residue_mul2 hp, residue_sqr2 hp, residue_sub2 hp, residue_add2 hp, residue_k2, map_mul, map_sub,
      map_pow, map_ofNat, Nat.cast_ofNat]
    ring

theorem get4Coef_eq_reduce (k : Point) :
    get4Coef p k = ⟨reduce p (4 * gauss k.z ^ 2), reduce p (gauss k.x - gauss k.z), reduce p (gauss k.x + gauss k.z),
      ⟨0, 0⟩, ⟨0, 0⟩⟩ := by
  obtain ⟨hk0, -⟩ := get4Coef_below hp k
  have h4 : (get4Coef p k).k0 = reduce p (4 * gauss k.z ^ 2) := by
    apply eq_reduce_of_residue hp hk0
    simp only [get4Coef, residue_sqr2 hp, residue_add2 hp, map_mul, map_pow, map_ofNat]
    ring
  rw [← h4, ← sub2_eq_reduce hp, ← add2_eq_reduce hp]
  rfl

theorem eval4Formula_eq_reduce (co : CoefRegs) (q : Point) :
    eval4Formula p co q =
      let X := gauss q.x
      let Z := gauss q.z
      let u := (X + Z) * gauss co.k1
      let v := (X - Z) * gauss co.k2
      let w := (X + Z) * (X - Z) * gauss co.k0
      ⟨reduce p (((u + v) ^ 2 + w) * (u + v) ^ 2), reduce p ((u - v) ^ 2 * ((u - v) ^ 2 - w))⟩ := by
  refine point_eq_reduce_of_residue hp (eval4Formula_below hp co q) ?_ ?_
  all_goals
    simp only [eval4Formula, residue_mul2 hp, residue_sqr2 hp, residue_sub2 hp, residue_add2 hp, map_mul, map_add, map_sub,
      map_pow]

/-! The first 4-isogeny (R915, R920). -/

theorem get4fK1_eq_reduce (a c : Gfp2) : get4fK1 p a c = reduce p (gauss a - 2 * gauss c) := by
  apply eq_reduce_of_residue hp (sub2_below hp _ _)
  simp only [residue_sub2 hp, residue_add2 hp, map_sub, map_mul, map_ofNat]
  ring

/-- The derived registers of (A' : C') = (2A+12C : A-2C) are A' + 2C', A' - 2C' and 4C'. -/
theorem get4fCurve_eq_reduce (a c : Gfp2) :
    get4fCurve p a c =
      let A := gauss a
      let C := gauss c
      ⟨reduce p (2 * A + 12 * C), reduce p (A - 2 * C), reduce p (4 * A + 8 * C), reduce p (16 * C),
        reduce p (4 * A - 8 * C)⟩ := by
  refine curve_eq_reduce_of_residue hp (get4fCurve_below hp a c) ?_ ?_ ?_ ?_ ?_
  all_goals
    simp only [get4fCurve, curveOf, get4fK1, residue_mul2 hp, residue_sub2 hp, residue_add2 hp, residue_k2, map_mul, map_add,
      map_sub, map_ofNat, Nat.cast_ofNat]
    ring

theorem eval4fFormula_eq_reduce (co : CoefRegs) (v : Point) :
    eval4fFormula p co v =
      let X := gauss v.x
      let Z := gauss v.z
      let q := (X + Z) ^ 2
      ⟨reduce p (q * (gauss co.k0 * q + gauss co.k1 * (X * Z))), reduce p (-(gauss co.k1 * (X * Z) * (X - Z) ^ 2))⟩ := by
  refine point_eq_reduce_of_residue hp (eval4fFormula_below hp co v) ?_ ?_
  all_goals
    simp only [eval4fFormula, residue_mul2 hp, residue_sqr2 hp, residue_sub2 hp, residue_add2 hp, residue_neg2 hp, map_mul,
      map_add, map_sub, map_neg, map_pow]

/-! The kernel law on values (R925): a factor of Z' is a difference of equal values. -/

theorem mul2_comm (x y : Gfp2) : mul2 p x y = mul2 p y x := by
  rw [mul2_eq_reduce hp, mul2_eq_reduce hp, mul_comm]

theorem sub2_self (x : Gfp2) : sub2 p x x = ⟨0, 0⟩ :=
  eq_of_cast_eq (sub2_below hp _ _) (zero_below hp) (by simp [cast_sub2 hp]) (by simp [cast_sub2 hp])

theorem neg2_zero : neg2 p ⟨0, 0⟩ = ⟨0, 0⟩ :=
  eq_of_cast_eq (neg2_below hp _) (zero_below hp) (by simp [neg2, cast_negp hp]) (by simp [neg2, cast_negp hp])

/-- At the kernel point t0 = (X+Z)(X-Z) = t1. -/
theorem eval3Formula_get3Coef_z (k : Point) : (eval3Formula p (get3Coef p k) k).z = ⟨0, 0⟩ := by
  simp only [eval3Formula, get3Coef]
  rw [mul2_comm hp (sub2 p k.x k.z), sub2_self hp, sqr2, zero_mul2 hp, mul2_zero hp]

/-- At the kernel point u = (X+Z)(X-Z) = v. -/
theorem eval4Formula_get4Coef_z (k : Point) : (eval4Formula p (get4Coef p k) k).z = ⟨0, 0⟩ := by
  simp only [eval4Formula, get4Coef]
  rw [mul2_comm hp (sub2 p k.x k.z), sub2_self hp, sqr2, zero_mul2 hp, zero_mul2 hp]

/-- At X = Z the factor (X-Z)^2 is 0, whatever COEF holds. -/
theorem eval4fFormula_z_of_x_eq_z (co : CoefRegs) {v : Point} (h : v.x = v.z) :
    (eval4fFormula p co v).z = ⟨0, 0⟩ := by
  simp only [eval4fFormula, h, sub2_self hp, sqr2, mul2_zero hp, neg2_zero hp]

end

section
variable {tags : List IsoTag} {rs : List FReg} {s : State}

/-- A command that checks ISO.TAG beside CFG_OK and the sources `rs` completes once the tag is one it takes and they are
canonical. -/
theorem command_of_tag (effect : State) (hc : s.cfgOk = true) (ht : s.iso.tag ∈ tags) (hr : Canonical s rs) :
    command { tags := some tags, sources := rs } effect s = .next (completed effect) := by
  have hv : Checks.verdict { tags := some tags, sources := rs } s = .eNone :=
    (verdict_eNone_iff _ s).mpr ⟨rfl, fun _ => hc, rfl, nofun, nofun, by simpa using ht, hr, rfl⟩
  rw [command_of_passed hv, finish_eNone, completed]

/-- E_ISOSTATE: the tag is none that the command takes. -/
theorem command_isostate (effect : State) (hc : s.cfgOk = true) (ht : s.iso.tag ∉ tags) :
    command { tags := some tags, sources := rs } effect s = .next (failed s .eIsostate) := by
  have hv : Checks.verdict { tags := some tags, sources := rs } s = .eIsostate := by
    simp [Checks.verdict, hc, wrongTag, ht]
  rw [command_of_failed (by simp [hv]), hv, finish_error _ (by decide), failed]

/-- The three errors of a command that checks ISO.TAG. -/
theorem errors_of_tag {i : Instr} {effect : State}
    (h : exec i s = command { tags := some tags, sources := rs } effect s) :
    NeedsConfig i s ∧ Raises i (s.iso.tag ∉ tags) .eIsostate s ∧ NeedsCanonical i rs (s.iso.tag ∈ tags) s :=
  ⟨fun hc => h.trans (command_nocfg effect rfl rfl hc), fun hc ht => h.trans (command_isostate effect hc ht),
    fun hc ht hr => h.trans (command_noncanon effect rfl hc rfl nofun nofun (by simpa using ht) hr)⟩

end

/-- The point (1 : 1) is canonical for a modulus above 1. -/
theorem canonical_of_point_eq_one {s : State} {k : PReg} (hp : 1 < s.mod) (hk : s.P k = ⟨⟨1, 0⟩, ⟨1, 0⟩⟩) :
    Canonical s (PReg.comps k) := by
  simp only [State.P, State.E, Point.mk.injEq, Gfp2.mk.injEq] at hk
  simp [Canonical, PReg.comps, EReg.comps, hk, hp, Nat.zero_lt_of_lt hp]

/-! The evaluations, one equation for each tag (R905, R915). -/

section
variable {s : State} {a : PReg} (d : PReg) (hc : s.cfgOk = true) (hr : Canonical s (PReg.comps a))
include hc hr

theorem exec_eval3_of_deg3 (ht : s.iso.tag = .deg3) :
    exec (.eval3 d a) s = .next (completed ((s.setP d (eval3Formula s.mod s.coef (s.P a))).setIso ⟨.evaluated, .deg3⟩)) := by
  refine (command_of_tag _ hc (by simp [ht]) hr).trans ?_
  rw [ht]

theorem exec_eval4_of_deg4 (ht : s.iso.tag = .deg4) :
    exec (.eval4 d a) s = .next (completed ((s.setP d (eval4Formula s.mod s.coef (s.P a))).setIso ⟨.evaluated, .deg4⟩)) := by
  refine (command_of_tag _ hc (by simp [ht]) hr).trans ?_
  rw [if_pos ht, ht]

theorem exec_eval4_of_deg4f (ht : s.iso.tag = .deg4f) :
    exec (.eval4 d a) s =
      .next (completed ((s.setP d (eval4fFormula s.mod s.coef (s.P a))).setIso ⟨.evaluated, .deg4f⟩)) := by
  refine (command_of_tag _ hc (by simp [ht]) hr).trans ?_
  rw [if_neg (by simp [ht]), ht]

end

/-- What a GET that ends with E_NONE leaves: its checks passed, MOD and the point registers are as before, and ISO and COEF
are as it writes them (R900, R910, R920). -/
theorem get_completed {rs : List FReg} {s t : State} {curve : CurveRegs} {coef : CoefRegs} {iso : Iso}
    (h : command { sources := rs } (((s.setCurve curve).setCoef coef).setIso iso) s = .next t) (ht : t.errcode = .eNone) :
    t.cfgOk = true ∧ Canonical t rs ∧ t.iso = iso ∧ t.coef = coef ∧ s.mod = t.mod ∧ ∀ n, s.P n = t.P n := by
  obtain ⟨hv, rfl⟩ | ⟨hv, rfl⟩ := command_next h
  · obtain ⟨-, hcfg, -, -, -, -, hsrc, -⟩ := (verdict_eNone_iff _ s).mp hv
    simpa [Canonical] using ⟨hcfg rfl, hsrc⟩
  · exact absurd ht hv

/-- A command that completes by writing P[j], with Z = 0, and ISO ends without error and with that Z in P[j]. -/
theorem kernel_of_completed {i : Instr} {s u : State} {j : PReg} {v : Point} {x : Iso} (hn : exec i s = .next u)
    (h : exec i s = .next (completed ((s.setP j v).setIso x))) (hz : v.z = ⟨0, 0⟩) :
    u.errcode = .eNone ∧ (u.P j).z = ⟨0, 0⟩ := by
  rw [h] at hn
  cases hn
  have hP : (completed ((s.setP j v).setIso x)).P j = v := s.setP_P_same j v
  exact ⟨rfl, by rw [hP, hz]⟩

end Sys2Proof.Machine

namespace Sys2Proof.Proofs
open Sys2Proof.Machine Sys2Proof.Claims

/-- Settles O47: the sequences of R900 and R905 multiplied out; EVAL3 takes the one tag DEG3. -/
theorem get3Eval3FollowTheThreeIsogeny : Obligations.Get3Eval3FollowTheThreeIsogeny := by
  refine ⟨fun a s hc hr => ?_, fun d a s hc ht hr => ?_, fun d a s => ?_⟩
  · have hp := mod_pos_of_canonical_point hr
    refine (command_of_canonical _ hc hr).trans ?_
    rw [get3Curve_eq_reduce hp, get3Coef_eq_reduce hp]
    rfl
  · rw [exec_eval3_of_deg3 d hc hr ht, eval3Formula_eq_reduce (mod_pos_of_canonical_point hr)]
    rfl
  · obtain ⟨hgetCfg, hgetCanon⟩ := errors_of_sources (i := .get3 a) (s := s) rfl
    exact ⟨hgetCfg, hgetCanon, by simpa using errors_of_tag (i := .eval3 d a) (s := s) rfl⟩

/-- Settles O48: the sequences of R910 and, for DEG4, R915 multiplied out; EVAL4 takes the two tags DEG4 and DEG4F. -/
theorem get4Eval4FollowTheFourIsogeny : Obligations.Get4Eval4FollowTheFourIsogeny := by
  refine ⟨fun a s hc hr => ?_, fun d a s hc ht hr => ?_, fun d a s => ?_⟩
  · have hp := mod_pos_of_canonical_point hr
    refine (command_of_canonical _ hc hr).trans ?_
    rw [get4Curve_eq_reduce hp, get4Coef_eq_reduce hp]
    rfl
  · rw [exec_eval4_of_deg4 d hc hr ht, eval4Formula_eq_reduce (mod_pos_of_canonical_point hr)]
    rfl
  · obtain ⟨hgetCfg, hgetCanon⟩ := errors_of_sources (i := .get4 a) (s := s) rfl
    exact ⟨hgetCfg, hgetCanon, by simpa using errors_of_tag (i := .eval4 d a) (s := s) rfl⟩

/-- Settles O49: the sequences of R920 and, for DEG4F, R915 multiplied out; GET4F checks no source. -/
theorem get4fEval4FollowTheFirstFourIsogeny : Obligations.Get4fEval4FollowTheFirstFourIsogeny := by
  refine ⟨fun s hc hp => ?_, fun d a s hc ht hr => ?_, fun s => (errors_of_sources rfl).1⟩
  · refine (command_of_canonical (rs := []) _ hc nofun).trans ?_
    rw [get4fCurve_eq_reduce hp, get4fCoef, get4fK1_eq_reduce hp]
    rfl
  · rw [exec_eval4_of_deg4f d hc hr ht, eval4fFormula_eq_reduce (mod_pos_of_canonical_point hr)]
    rfl

/-- Settles O50: a GET keeps MOD and the point registers, so its kernel point is still canonical and the EVAL completes; the
GET's COEF make a factor of its Z' vanish. -/
theorem isogenyKernelLaw : Obligations.IsogenyKernelLaw := by
  refine ⟨fun k j s t u hget ht heval => ?_, fun k j s t u hget ht heval => ?_, fun k j s t u hget ht hp hk heval => ?_⟩
  · obtain ⟨hc, hr, hiso, hcoef, hmod, hP⟩ := get_completed hget ht
    refine kernel_of_completed heval (exec_eval3_of_deg3 j hc hr (by rw [hiso])) ?_
    rw [hcoef, hmod, hP, eval3Formula_get3Coef_z (mod_pos_of_canonical_point hr)]
  · obtain ⟨hc, hr, hiso, hcoef, hmod, hP⟩ := get_completed hget ht
    refine kernel_of_completed heval (exec_eval4_of_deg4 j hc hr (by rw [hiso])) ?_
    rw [hcoef, hmod, hP, eval4Formula_get4Coef_z (mod_pos_of_canonical_point hr)]
  · obtain ⟨hc, -, hiso, -⟩ := get_completed (rs := []) hget ht
    refine kernel_of_completed heval (exec_eval4_of_deg4f j hc (canonical_of_point_eq_one hp hk) (by rw [hiso])) ?_
    rw [eval4fFormula_z_of_x_eq_z (Nat.zero_lt_of_lt hp) _ (by rw [hk])]

end Sys2Proof.Proofs
end

section
/-! The end of a command (60_exceptions.md R1002 to R1010, R1020): every command is the common frame around its own checks,
so its code is the first failing check of R1002's table; what completes without error and what completes with one; and what
follows for the latency counter and the interrupt. -/

namespace Sys2Proof.Machine
open Sys2Proof.Claims

/-- A d beyond the range that R301 gives INV3 and INV4: what is left of R1004's ILLEGAL column once the word has decoded. -/
def outOfRange : Instr → Bool
  | .inv3 d => decide (29 < d.val)
  | .inv4 d => decide (28 < d.val)
  | _ => false

/-- The tags that ISO.TAG must be among, for the commands that check it (R1004's ISOSTATE column). -/
def neededTags : Instr → Option (List IsoTag)
  | .eval3 _ _ => some [.deg3]
  | .eval4 _ _ => some [.deg4, .deg4f]
  | _ => none

/-- R1004's BADMOD column: only CONFIG tests the modulus (R401). -/
def refusesModulus (s : State) : Instr → Bool
  | .config => !acceptMod s.slot.width s.mod
  | _ => false

/-- The checks of the command `i`, read off the tables of R1004. -/
def checksOf (i : Instr) (s : State) : Checks where
  illegal := outOfRange i
  needsCfg := usesField i
  aliased := aliases i
  usesNbits := usesCount i
  usesSel := usesSelector i
  tags := neededTags i
  sources := sources i
  badmod := refusesModulus s i

/-- Every command is the common frame around the checks of R1004, and its own effect leaves ERR to the frame. -/
theorem exec_eq_command (i : Instr) (s : State) :
    ∃ effect : State, exec i s = command (checksOf i s) effect s ∧ effect.err = s.err := by
  cases i <;> exact ⟨_, rfl, by simp⟩

/-- The tag check fails as R1004 says: EVAL3 without DEG3, EVAL4 with neither DEG4 nor DEG4F. -/
theorem tagFails_iff (i : Instr) (s : State) : tagFails s i ↔ wrongTag (neededTags i) s.iso.tag = true := by
  cases i <;> simp [tagFails, neededTags, wrongTag]

theorem wf_eq_false_iff (i : Instr) : i.wf = false ↔ outOfRange i = true := by
  cases i <;> simp [Instr.wf, outOfRange]

theorem refusesModulus_iff (i : Instr) (s : State) :
    i = .config ∧ acceptMod s.slot.width s.mod = false ↔ refusesModulus s i = true := by
  cases i <;> simp [refusesModulus]

/-- The frame's verdict on a command's checks is the code that R1002's order gives it. -/
theorem errorOf_eq_verdict (i : Instr) (s : State) : errorOf i s = (checksOf i s).verdict s := by
  unfold errorOf Checks.verdict checksOf
  simp [wf_eq_false_iff, tagFails_iff, refusesModulus_iff, SelLegal]

/-- The two ends of a command: all checks pass and its effect completes, or the first that fails gives the code and nothing
is committed (R1002, R1005, R1010). -/
theorem exec_cases (i : Instr) (s : State) :
    (errorOf i s = .eNone ∧ ∃ effect : State, effect.err = s.err ∧ exec i s = .next (completed effect)) ∨
    (errorOf i s ≠ .eNone ∧ exec i s = .next (failed s (errorOf i s))) := by
  obtain ⟨effect, he, herr⟩ := exec_eq_command i s
  rw [he, errorOf_eq_verdict]
  obtain ⟨hv, h⟩ | ⟨hv, h⟩ := command_cases (checksOf i s) effect s
  · exact .inl ⟨hv, effect, herr, h.trans (by rw [finish_eNone, completed])⟩
  · exact .inr ⟨hv, h.trans (by rw [finish_error _ hv, failed])⟩

/-- No check reads the completion record, so an error leaves the code of the next try as it was (R1005). -/
theorem errorOf_failed (i : Instr) (s : State) (c : ErrCode) : errorOf i (failed s c) = errorOf i s := rfl

/-- A command that ends with an error has only written the record of its completion, and ends so again (R1005). -/
theorem exec_error {i : Instr} {s t : State} (h : exec i s = .next t) (ht : t.errcode ≠ .eNone) :
    t = failed s t.errcode ∧ exec i t = .next t := by
  obtain ⟨-, effect, -, he⟩ | ⟨hc, he⟩ := exec_cases i s <;> cases h.symm.trans he
  · exact absurd rfl ht
  · obtain ⟨hn, -⟩ | ⟨-, hagain⟩ := exec_cases i (failed s (errorOf i s))
    · exact absurd ((errorOf_failed ..).symm.trans hn) hc
    · rw [errorOf_failed] at hagain
      exact ⟨rfl, hagain⟩

/-- Every command completes with DONE set, BUSY cleared, and ERR set exactly by an error (R1010). -/
theorem exec_completes (i : Instr) (s : State) :
    ∃ t, exec i s = .next t ∧ t.done = true ∧ t.busy = false ∧
      (t.errcode ≠ .eNone → t.err = true) ∧ (t.errcode = .eNone → t.err = s.err) := by
  obtain ⟨-, effect, herr, he⟩ | ⟨hc, he⟩ := exec_cases i s
  · exact ⟨_, he, rfl, rfl, fun hn => absurd rfl hn, fun _ => herr⟩
  · exact ⟨_, he, rfl, rfl, fun _ => rfl, fun hn => absurd hn hc⟩

theorem runWord_of_legal {w : Word} {i : Instr} (s : State) (h : decodeWord w = some i) : runWord w s = exec i s := by
  rw [runWord, h]

/-- Every word completes, a legal one as its command does and an illegal one with E_ILLEGAL. -/
theorem runWord_completes (w : Word) (s : State) : ∃ t, runWord w s = .next t := by
  cases hw : decodeWord w with
  | none => exact ⟨_, runWord_of_illegal s hw⟩
  | some i =>
    obtain ⟨t, he, -⟩ := exec_completes i s
    exact ⟨t, (runWord_of_legal s hw).trans he⟩

/-- A completion sets DONE and keeps CTRL (R1010). -/
theorem runWord_done_irqEn {w : Word} {s t : State} (h : runWord w s = .next t) : t.done = true ∧ t.irqEn = s.irqEn := by
  obtain ⟨i, -, he⟩ | ⟨-, rfl⟩ := runWord_cases h
  · obtain ⟨u, hu, hdone, -⟩ := exec_completes i s
    rw [he] at hu
    cases hu
    exact ⟨hdone, (exec_withinFrame he).irqEn⟩
  · exact ⟨rfl, rfl⟩

/-- The code known at acceptance is the one the word's run ends with. -/
theorem codeOf_of_runWord {w : Word} {s t : State} (h : runWord w s = .next t) : codeOf w s = t.errcode := by
  rw [codeOf, h]

/-- The latency of a success depends on the opcode, the width, PBITS and, for LADDER, NBITS (R1120). -/
theorem latencyLeft_of_success {w : Word} {s : State} (h : codeOf w s = .eNone) :
    latencyLeft w s =
      Config.latSuccess (opField w) s.slot.width s.pbits (if opField w = 0x50#8 then s.nbits.toNat else 0) := by
  rw [latencyLeft, h]

/-- The latency of an error depends on the opcode and the code (R1010). -/
theorem latencyLeft_of_error {w : Word} {s : State} (h : codeOf w s ≠ .eNone) :
    latencyLeft w s = Config.latError (opField w) (codeOf w s).code := by
  unfold latencyLeft
  generalize codeOf w s = c at *
  cases c with
  | eNone => exact absurd rfl h
  | _ => rfl

/-- A CMD write to an idle CORE is its acceptance (R134). -/
theorem memWrite_cmd_of_idle {s : State} (w : Word) (hr : s.inReset = false) (hb : s.busy = false) :
    s.memWrite 0x014#16 .word 0xF#4 w = s.accept w (latencyLeft w s) :=
  (Proofs.cmdWritesAreAcceptedWhileIdle.1 s w hr hb).1

/-- The counter that a CMD write to an idle CORE puts in flight. -/
theorem counterAfterCmd_of_idle {w : Word} {s : State} (hr : s.inReset = false) (hb : s.busy = false) :
    counterAfterCmd w s = some (latencyLeft w s) := by
  rw [counterAfterCmd, memWrite_cmd_of_idle w hr hb]
  rfl

end Sys2Proof.Machine

namespace Sys2Proof.Proofs
open Sys2Proof.Machine Sys2Proof.Claims

/-- Settles O7: the two ends of a command, and the two kinds of word. -/
theorem firstFailingCheckDecidesTheCode : Obligations.FirstFailingCheckDecidesTheCode := by
  refine ⟨fun i s => ?_, fun w s => runWord_of_illegal s, fun w i s => runWord_of_legal s⟩
  obtain ⟨hc, effect, -, he⟩ | ⟨hc, he⟩ := exec_cases i s
  · exact ⟨fun hn => absurd hc hn, fun _ => ⟨_, he, rfl⟩⟩
  · exact ⟨fun _ => he, fun hn => absurd hn hc⟩

/-- Settles O8: a legal word errs as its command does, and an illegal one stays illegal. -/
theorem errorsArePrecise : Obligations.ErrorsArePrecise := by
  refine ⟨fun i s t h ht => exec_error h ht, fun w s t h ht => ?_⟩
  cases hw : decodeWord w with
  | none =>
    rw [runWord_of_illegal s hw] at h
    cases h
    exact ⟨rfl, runWord_of_illegal (failed s .eIllegal) hw⟩
  | some i =>
    rw [runWord_of_legal s hw] at h
    obtain ⟨hrecord, hagain⟩ := exec_error h ht
    exact ⟨hrecord, (runWord_of_legal t hw).trans hagain⟩

/-- Settles O9: the completion record of R1010, and LASTCMD from the command's frame. -/
theorem everyCommandCompletes : Obligations.EveryCommandCompletes := by
  intro i s
  obtain ⟨t, he, hdone, hbusy, herr, hok⟩ := exec_completes i s
  exact ⟨t, he, hdone, hbusy, herr, hok, (exec_withinFrame he).lastcmd⟩

/-- Settles O12: a cycle of the host's side always ends, and so does the run of a word. -/
theorem noStepStops : Obligations.NoStepStops := by
  intro s
  cases hs : s.inflight with
  | none => exact ⟨_, step_of_idle hs⟩
  | some c =>
    cases hc : completesNow c s.host with
    | true =>
      obtain ⟨t, ht⟩ := runWord_completes c.word s
      exact ⟨t, (step_of_completes hs hc).trans ht⟩
    | false => exact ⟨_, step_of_waits hs hc⟩

/-- Settles O15: the counter is the latency at acceptance, whose parameters the two words share. -/
theorem latencyIsDataIndependent : Obligations.LatencyIsDataIndependent := by
  intro w w' s t s' t' hop hrs hbs hrt hbt hs ht hcode
  have hcs := codeOf_of_runWord hs
  have hct := (codeOf_of_runWord ht).trans hcode.symm
  rw [counterAfterCmd_of_idle hrs hbs, counterAfterCmd_of_idle hrt hbt]
  refine ⟨fun hok hslot hpbits hnbits => ?_, fun herr => ?_⟩
  · have hcount : (if opField w = 0x50#8 then s.nbits.toNat else 0) = if opField w = 0x50#8 then t.nbits.toNat else 0 :=
      ite_congr rfl (fun h => by rw [hnbits h]) fun _ => rfl
    rw [latencyLeft_of_success (hcs.trans hok), latencyLeft_of_success (hct.trans hok), ← hop, hslot, hpbits, hcount]
  · rw [latencyLeft_of_error (hcs ▸ herr), latencyLeft_of_error (hct ▸ herr), hcs, hct, hop]

/-- Settles O21: what DONE and IRQ_EN are after each way a command ends, a CSR is written and CORE is reset. -/
theorem interruptIsDoneAndEnabled : Obligations.InterruptIsDoneAndEnabled := by
  refine ⟨fun _ => rfl, fun w s t h => ?_, fun s v hr hv => ?_, fun s w hr hb => ?_, fun s v hr => ?_, fun _ => ⟨rfl, rfl⟩⟩
  · obtain ⟨hdone, hen⟩ := runWord_done_irqEn h
    rw [State.irq, hdone, hen, Bool.true_and]
  · obtain ⟨hctrl, -⟩ := csrWritesChangeTheirFields s v hr
    rw [hctrl hv]
    exact ⟨rfl, rfl⟩
  · rw [memWrite_cmd_of_idle w hr hb]
    rfl
  · obtain ⟨-, hstatus, -⟩ := csrWritesChangeTheirFields s v hr
    rw [hstatus]
    exact Bool.and_right_comm s.done (!v.getLsbD 1) s.irqEn

end Sys2Proof.Proofs
end

section
/-! The soft reset through the bus (70_reset_and_hazards.md R1101): column S of R150, written by a CTRL write with SRST. -/

namespace Sys2Proof.Machine

/-- A CTRL write with SRST is the soft reset, whatever its other bits (R132, R1101). -/
theorem writeCtrl_of_srst {s : State} {v : Word} (h : v.getLsbD 1 = true) : s.writeCtrl v = s.softReset := by
  rw [State.writeCtrl, if_pos h]

/-- Column S of R150: what the soft reset clears, every other field of the state kept. -/
theorem softReset_eq (s : State) :
    s.softReset =
      { s with curve := .zero, coef := .zero, iso := .initial, flags := ⟨false, false, false, false⟩, sel := 0#32,
               nbits := 0#16, irqEn := false, done := false, err := false, cfgOk := false, ovr := false,
               errcode := .eNone, lastcmd := 0#32, pbits := 0, inflight := none } := by
  simp only [State.softReset, State.powerUp, Flags.clear]

/-- SRST reads 0: CTRL's word has no bit but IRQ_EN (R132). -/
theorem ctrlWord_srst (s : State) : s.ctrlWord.getLsbD 1 = false := by
  unfold State.ctrlWord
  cases s.irqEn <;> rfl

end Sys2Proof.Machine

namespace Sys2Proof.Proofs
open Sys2Proof.Machine

/-- Settles O20: while busy a write that is no soft reset leaves the command in flight, CTRL's word has no SRST, and a CTRL
write with SRST is the soft reset, busy or not. -/
theorem softResetGivesColumnS : Obligations.SoftResetGivesColumnS := by
  refine ⟨fun s addr kind lanes v hb hs => ?_, fun s hr => ?_, fun s v hr hv => ?_⟩
  · obtain ⟨q, d, e, o, h⟩ := memWrite_of_busy hb hs
    rw [h]
  · exact ⟨s.ctrlWord, memRead_csr hr rfl (by decide), ctrlWord_srst s⟩
  · calc s.memWrite 0x00C#16 .word 0xF#4 v
      _ = s.writeCtrl v := memWrite_csr v hr rfl (by decide) (by simp [idleOnlyCsr])
      _ = s.softReset := writeCtrl_of_srst hv
      _ = _ := softReset_eq s

end Sys2Proof.Proofs
end
